-- ==== Sys2Proof/Word.lean ====
section
/-! DEFINITION. The unsigned value types of 00_scope.md rule R8. -/

namespace Sys2Proof

/-- A *byte*: an unsigned 8-bit value (R8). -/
abbrev Byte := BitVec 8

/-- A *word16*: an unsigned 16-bit value (R8). -/
abbrev Word16 := BitVec 16

/-- A *word32*: an unsigned 32-bit value (R8). -/
abbrev Word32 := BitVec 32

end Sys2Proof
end

