-- ==== Sys2Proof/Syntax.lean ====
section
/-! DEFINITION. The commands of the block: one constructor per row of spec/opcode_table.json
(30_encoding.md rule R63), each operand at the width of its field (R61, R64). -/

namespace Sys2Proof

/-- A command of the block. -/
inductive Instr where
  /-- `CRC_INIT` (R103). -/
  | crcInit
  /-- `CRC_BYTE data` (R104). -/
  | crcByte (data : Byte)
  /-- `BUILD_REQ sid, reg` (R121). -/
  | buildReq (sid : Byte) (reg : Word16)
  /-- `RSP_LOAD idx, data` (R122). The field has 4 bits; only 0 to 8 are legal (R63). -/
  | rspLoad (idx : BitVec 4) (data : Byte)
  /-- `PARSE sid` (R127). -/
  | parse (sid : Byte)
deriving DecidableEq, Repr

end Sys2Proof
end

