-- ==== Sys2Proof/WellFormed.lean ====
section
/-! DEFINITION. Which terms of `Instr` are commands: the extra condition of 30_encoding.md rule R63. -/

namespace Sys2Proof

/-- The one condition R63 adds to the field widths: `RSP_LOAD` needs `IDX <= 8`. -/
def Instr.wellFormed : Instr → Bool
  | .crcInit => true
  | .crcByte _ => true
  | .buildReq _ _ => true
  | .rspLoad idx _ => decide (idx ≤ 8#4)
  | .parse _ => true

end Sys2Proof
end

