-- ==== Sys2Proof/Decode.lean ====
section
/-! DEFINITION. The command word: fields, decoder, encoder and opcode map (30_encoding.md rules
R60 to R66). A command word is one 32-bit value, so no byte order enters (20_memory.md rule R44). -/

namespace Sys2Proof

/-- Why a word is illegal: the three cases of R66. The block itself records none of them (R160). -/
inductive IllegalReason where
  /-- OP is 0x0 or 0x6 to 0xF. -/
  | unknownOp
  /-- A bit that the format does not use is nonzero. -/
  | reservedBits
  /-- `RSP_LOAD` with `IDX` from 9 to 15. -/
  | indexOutOfRange
deriving DecidableEq, Repr

/-- What R65's `decode` answers: a command, or Illegal. -/
inductive Decoded where
  | command (i : Instr)
  | illegal (why : IllegalReason)
deriving DecidableEq, Repr

/-- The field `w[lo+len-1 : lo]` of a command word (R8, R61). -/
def field (w : Word32) (lo len : Nat) : BitVec len := w.extractLsb' lo len

/-- R65: the decoder, total on every 32-bit word. -/
def decode (w : Word32) : Decoded :=
  let op := field w 28 4
  if op = 0x1#4 then
    if field w 0 28 = 0#28 then .command .crcInit else .illegal .reservedBits
  else if op = 0x2#4 then
    if field w 8 20 = 0#20 then .command (.crcByte (field w 0 8)) else .illegal .reservedBits
  else if op = 0x3#4 then
    if field w 24 4 = 0#4 then .command (.buildReq (field w 16 8) (field w 0 16))
    else .illegal .reservedBits
  else if op = 0x4#4 then
    if field w 8 16 = 0#16 then
      if field w 24 4 ≤ 8#4 then .command (.rspLoad (field w 24 4) (field w 0 8))
      else .illegal .indexOutOfRange
    else .illegal .reservedBits
  else if op = 0x5#4 then
    if field w 24 4 = 0#4 then
      if field w 0 16 = 0#16 then .command (.parse (field w 16 8)) else .illegal .reservedBits
    else .illegal .reservedBits
  else .illegal .unknownOp

/-- The command word of an instruction, bit 31 first, from the formats of R62. -/
def encode : Instr → Word32
  | .crcInit => 0x1#4 ++ 0#28
  | .crcByte data => 0x2#4 ++ 0#4 ++ 0#16 ++ data
  | .buildReq sid reg => 0x3#4 ++ 0#4 ++ sid ++ reg
  | .rspLoad idx data => 0x4#4 ++ idx ++ 0#16 ++ data
  | .parse sid => 0x5#4 ++ 0#4 ++ sid ++ 0#16

/-- One row of R63's opcode map. -/
structure OpRow where
  mnemonic : String
  match32 : Word32
  mask : Word32
deriving DecidableEq, Repr

/-- R63: the opcode map's legal rows. -/
def opTable : List OpRow :=
  [ ⟨"CRC_INIT", 0x10000000, 0xFFFFFFFF⟩,
    ⟨"CRC_BYTE", 0x20000000, 0xFFFFFF00⟩,
    ⟨"BUILD_REQ", 0x30000000, 0xFF000000⟩,
    ⟨"RSP_LOAD", 0x40000000, 0xF0FFFF00⟩,
    ⟨"PARSE", 0x50000000, 0xFF00FFFF⟩ ]

/-- The word matches the row under the row's mask (R63). -/
def OpRow.hits (r : OpRow) (w : Word32) : Bool := w &&& r.mask == r.match32

/-- The row of R63's map that an instruction belongs to. -/
def Instr.row : Instr → OpRow
  | .crcInit => ⟨"CRC_INIT", 0x10000000, 0xFFFFFFFF⟩
  | .crcByte _ => ⟨"CRC_BYTE", 0x20000000, 0xFFFFFF00⟩
  | .buildReq _ _ => ⟨"BUILD_REQ", 0x30000000, 0xFF000000⟩
  | .rspLoad _ _ => ⟨"RSP_LOAD", 0x40000000, 0xF0FFFF00⟩
  | .parse _ => ⟨"PARSE", 0x50000000, 0xFF00FFFF⟩

/-- R63, read from the map and not from R65's decoder: a word is legal exactly when it matches one
row under its mask and meets the row's extra condition (`IDX <= 8` for RSP_LOAD). -/
def legalByMap (w : Word32) : Bool :=
  opTable.any fun r => r.hits w && (r.mnemonic != "RSP_LOAD" || decide (field w 24 4 ≤ 8#4))

/-- The command word whose bits are `w` in the numbering of spec/opcode_table.json: one word (R60),
bit 0 the least significant, the bits from `nbits` up being 0. -/
def tableWord (nbits w : Nat) : Word32 := BitVec.ofNat 32 (w % 2 ^ nbits)

/-- What the decoder reads from a table row's word; none where the word is illegal. -/
def decodeTableWord (nbits w : Nat) : Option Instr :=
  match decode (tableWord nbits w) with
  | .command i => some i
  | .illegal _ => none

end Sys2Proof
end

