-- ==== Sys2Proof/Config.lean ====
section
/-! DEFINITION. The fixed constants of 00_scope.md rule R6 and the parameters of rule R7.
A parameter the spec leaves OPEN has no body here, so no proof can see a value of it. -/

namespace Sys2Proof.Config

/-- `CRC_POLY` (R6): the reflected polynomial of the right-shift loop. -/
def crcPoly : Word16 := 0xA001

/-- `CRC_SEED` (R6). -/
def crcSeed : Word16 := 0xFFFF

/-- `FC_READ_INPUT` (R6): the codec's only function code (R129). -/
def fcReadInput : Byte := 0x04

/-- `REG_COUNT` (R6): two 16-bit words, sent as 0x00, 0x02. -/
def regCount : Word16 := 2

/-- `DATA_BYTES` (R6): the byte count the response header must carry. -/
def dataBytes : Byte := 4

/-- `REQ_LEN` (R6; 90_conflicts.md C1 settles 8 against 9). -/
def reqLen : Nat := 8

/-- `RSP_LEN` (R6). -/
def rspLen : Nat := 9

/-- `REQ_CRC_SPAN` (R6): the request's CRC covers bytes 0..5. -/
def reqCrcSpan : Nat := 6

/-- `RSP_CRC_SPAN` (R6): the response's CRC covers bytes 0..6. -/
def rspCrcSpan : Nat := 7

/-- `T_MIN` (R7): the lower clamp bound of the timing setters, in ms. -/
def tMin : Word16 := 20

/-- `T_MAX` (R7): the upper clamp bound of the timing setters, in ms. -/
def tMax : Word16 := 5000

/-- The slave identifier `readValue` uses when the caller gives none (R184). -/
def defaultSlaveId : Byte := 1

/-- The default of the parameter `NAN_SENTINEL` (R7; 92_eei_decisions.md D10). A run carries its
own sentinel in `State.params`; only `State.reset` takes it from here. Log entry 1. -/
def nanSentinelDefault : Word32 := 0x7FC00000

/-- OPEN (R7): where in [20, 5000] the default turnaround timeout lies. Log entry 2. -/
opaque turnOffset : Nat

/-- OPEN (R7): where in [20, 5000] the default drain timeout lies. Log entry 2. -/
opaque drainOffset : Nat

/-- `T_TURN_DEFAULT` (R7): OPEN, constrained to [20, 5000]; each value of that range is possible. -/
def tTurnDefault : Word16 := BitVec.ofNat 16 (20 + turnOffset % 4981)

/-- `T_DRAIN_DEFAULT` (R7): OPEN, constrained to [20, 5000]; each value of that range is possible. -/
def tDrainDefault : Word16 := BitVec.ofNat 16 (20 + drainOffset % 4981)

/-- `T_SETTLE` (R7): OPEN, in ms. Log entry 2. -/
opaque tSettle : Nat

/-- `HAS_DIR_LINE` (R7): OPEN, a boolean of the link instance. Log entry 2. -/
opaque hasDirLine : Bool

end Sys2Proof.Config
end

