-- ==== Sys2Proof/Machine/State.lean ====
section
/-! DEFINITION. The state of one link instance: the block (10_state.md rule R20), the host's
reference behaviour that drives it (60_exceptions.md Part 2, rule R172), the byte channel, and the
inputs still to come. All of it is plain data. -/

namespace Sys2Proof.Machine

/-- Why the machine stops with a fault. The block itself never stops: its one exception only sets
`STATUS.ILL` and the next command runs (R160, R163). -/
inductive Fault where
  /-- Raised by the Transaction Engine's collection of the verdict (R175) when `STATUS.VERDICT`
  holds 5, 6 or 7, which number no Error Code (R26, R171). Safe: no run reaches it, and stopping
  proves nothing false. Log entry 3. -/
  | reservedVerdict
deriving DecidableEq, Repr

/-- Why a step has no meaning. -/
inductive Refusal where
  /-- The instruction has no meaning in the model. No arm of `exec` uses it. Safe. -/
  | notModelled (mnemonic : String)
  /-- Raised by a step whose input is a client's command word while a transaction is in flight: two
  command streams to one block interleave, which breaks the contract (R170;
  93_implementation_defined.md says refuse). Safe. Log entry 4. -/
  | interleavedStreams
  /-- Raised by a `readValue` call while a transaction is in flight on the link (R170;
  93_implementation_defined.md says refuse). Safe. Log entry 4. -/
  | concurrentTransaction
deriving DecidableEq, Repr

/-- The parameters of rule R7 that a run reads. They are the instance's, no step changes them, and
they ride in the state so that a statement about every state holds for every value of them.
Log entries 1 and 2. -/
structure Params where
  /-- `NAN_SENTINEL`. -/
  nanSentinel : Word32
  /-- `HAS_DIR_LINE`. -/
  hasDirLine : Bool
  /-- `T_SETTLE`, in ms. -/
  tSettle : Nat
deriving DecidableEq, Repr

/-- The block's architectural state, exactly the five elements of R20. -/
structure Block where
  /-- `CRC` (R21). -/
  crc : Word16
  /-- `REQ[0..7]` (R22). -/
  req : Vector Byte 8
  /-- `RSP[0..8]` (R23). -/
  rsp : Vector Byte 9
  /-- `VALUE` (R24). -/
  value : Word32
  /-- `STATUS` (R25). -/
  status : BitVec 8
deriving DecidableEq, Repr

/-- R33, R200: the block right after reset, for the instance's sentinel. -/
def Block.reset (nanSentinel : Word32) : Block :=
  { crc := Config.crcSeed
    req := #v[0, 0, 0, 0, 0, 0, 0, 0]
    rsp := #v[0, 0, 0, 0, 0, 0, 0, 0, 0]
    value := nanSentinel
    status := 0 }

/-- R171: the Error Code of an exchange. -/
inductive ErrorCode where
  | noError
  | crcError
  | wrongHeaderBytes
  | insufficientBytes
  | timeout
deriving DecidableEq, Repr

/-- R172: the direction of the half-duplex line. -/
inductive Dir where
  | rx
  | tx
deriving DecidableEq, Repr

/-- The next of R173's ordered steps from Idle to AwaitingResponse. -/
inductive TxStep where
  /-- Step 1: discard every unread byte. -/
  | preFlush
  /-- Step 2: issue BUILD_REQ. -/
  | build
  /-- Step 3: assert transmit direction. -/
  | assertTx
  /-- Step 4: wait `T_SETTLE`. -/
  | settle
  /-- Step 5: write `REQ[0..7]` to the channel. -/
  | write
  /-- Step 6, then 7: wait until the transport has sent all, then return to receive. -/
  | waitSent
deriving DecidableEq, Repr

/-- The next thing R175 does. -/
inductive ValStep where
  /-- Read 9 bytes off the channel. -/
  | read
  /-- Issue these command words in order, then take the verdict. -/
  | issue (words : List Word32)
deriving DecidableEq, Repr

/-- Where R176's drain stands. -/
inductive DrainStep where
  /-- The drain begins: an empty channel ends it at once. -/
  | start
  /-- Bytes were present at the start; they are discarded until `timeoutMs` has passed. -/
  | collecting
deriving DecidableEq, Repr

/-- R172: the transaction state, with the step the engine takes next inside it. -/
inductive Phase where
  | idle
  | transmitting (stage : TxStep)
  | awaitingResponse
  | validating (stage : ValStep)
  | draining (stage : DrainStep)
  | done
deriving DecidableEq, Repr

/-- The variables of the exchange under way (R173 to R177). -/
structure Txn where
  /-- The register address that `readValue` was given. -/
  reg : Word16
  /-- The requested slave identifier. -/
  sid : Byte
  /-- `t0`: the clock reading that the present wait began at, in ms (R173 step 4, R174, R176). -/
  t0 : Nat
  /-- `err`. -/
  err : ErrorCode
  /-- `value`. -/
  value : Word32
deriving DecidableEq, Repr

/-- R172: the host state of one link instance. -/
structure Engine where
  errorCode : ErrorCode
  successCount : Word32
  errorCount : Word32
  turnaroundMs : Word16
  /-- The drain timeout (92_eei_decisions.md D29). -/
  timeoutMs : Word16
  dir : Dir
  phase : Phase
  txn : Txn
deriving DecidableEq, Repr

/-- The byte channel, a collaborator of the host (R10). -/
structure Channel where
  /-- Received bytes not yet read, oldest first. -/
  rx : List Byte
  /-- Bytes written by the engine that the transport has not yet sent, oldest first. -/
  tx : List Byte
  /-- Bytes the transport has sent since the last pre-flush, oldest first. -/
  line : List Byte
deriving DecidableEq, Repr

/-- R32: a read port of the block. -/
inductive Port where
  | crc
  | req (i : Fin 8)
  | rsp (i : Fin 9)
  | value
  | status
deriving DecidableEq, Repr

/-- The call surface (R180, R181, R182, R184). -/
inductive HostCall where
  /-- `readValue(registerAddress, slaveId = 1)`; `none` is a call that leaves the slave id out. -/
  | readValue (reg : Word16) (sid : Option Byte)
  | setTurnaroundMs (v : Word16)
  | setTimeoutMs (v : Word16)
  | getTurnaroundMs
  | getTimeoutMs
  | getErrorCode (clear : Bool)
  | getErrorCount (clear : Bool)
  | getSuccessCount (clear : Bool)
  | clearErrorCode
  | clearErrorCount
  | clearSuccessCount
deriving DecidableEq, Repr

/-- What a read port or a host call handed back. -/
inductive Reply where
  | byte (v : Byte)
  | word16 (v : Word16)
  | word32 (v : Word32)
  | code (e : ErrorCode)
  /-- A call that returns no value has returned. -/
  | unit
deriving DecidableEq, Repr

/-- One thing that happens next, from outside the machine or by its schedule (R187). -/
inductive Input where
  /-- A client issues one command word to the block. -/
  | command (w : Word32)
  /-- The reset event of the block (R200). -/
  | reset
  /-- A client reads a port (R32). -/
  | readPort (p : Port)
  /-- A caller calls the host's surface. -/
  | call (c : HostCall)
  /-- The Transaction Engine takes one step; the wall clock reads `now` ms (R174, R186). -/
  | engine (now : Nat)
  /-- The channel delivers one byte. -/
  | arrive (b : Byte)
  /-- The channel loses its oldest unread byte (the draw of 92_eei_decisions.md D21). -/
  | lose
  /-- The transport finishes sending its oldest written byte. -/
  | sent
deriving DecidableEq, Repr

/-- The state of one link instance. -/
structure State where
  params : Params
  block : Block
  engine : Engine
  chan : Channel
  /-- The inputs still to come, the next first (model's own: the command stream is the input of the
  step relation, R31). Log entry 5. -/
  inputs : List Input
  /-- What the last port read or host call handed back (model's own). Log entry 5. -/
  reply : Option Reply
deriving DecidableEq, Repr

/-- R172, R203: the host state as it is created. The `txn` fields have no meaning until a call. -/
def Engine.initial (nanSentinel : Word32) : Engine :=
  { errorCode := .noError
    successCount := 0
    errorCount := 0
    turnaroundMs := Config.tTurnDefault
    timeoutMs := Config.tDrainDefault
    dir := .rx
    phase := .idle
    txn := { reg := 0, sid := 0, t0 := 0, err := .noError, value := nanSentinel } }

/-- The machine right after reset and host boot (R33, R200, R172, R203), with nothing issued yet. -/
def State.reset : State :=
  { params :=
      { nanSentinel := Config.nanSentinelDefault
        hasDirLine := Config.hasDirLine
        tSettle := Config.tSettle }
    block := Block.reset Config.nanSentinelDefault
    engine := Engine.initial Config.nanSentinelDefault
    chan := { rx := [], tx := [], line := [] }
    inputs := []
    reply := none }

end Sys2Proof.Machine
end

