-- ==== Sys2Proof/Machine/Flags.lean ====
section
/-! DEFINITION. The fields of `STATUS` (10_state.md rules R25 to R29): bits [2:0] `VERDICT`, [4]
`VALID`, [5] `REQV`, [6] `ILL`; bits 3 and 7 are hardwired 0. -/

namespace Sys2Proof.Machine

/-- `STATUS.VERDICT` (R26). -/
def verdict (st : BitVec 8) : BitVec 3 := st.extractLsb' 0 3

/-- `STATUS.VALID` (R27). -/
def valid (st : BitVec 8) : Bool := st.getLsbD 4

/-- `STATUS.REQV` (R28). -/
def reqv (st : BitVec 8) : Bool := st.getLsbD 5

/-- `STATUS.ILL` (R29). -/
def ill (st : BitVec 8) : Bool := st.getLsbD 6

/-- The reserved bits 3 and 7 read as 0 (R25). -/
def reservedZero (st : BitVec 8) : Bool := !st.getLsbD 3 && !st.getLsbD 7

/-- `STATUS.REQV <- 1`, every other bit kept (R121). -/
def setReqv (st : BitVec 8) : BitVec 8 := st ||| 0x20#8

/-- `STATUS.ILL <- 1`, every other bit kept (R160). -/
def setIll (st : BitVec 8) : BitVec 8 := st ||| 0x40#8

/-- `STATUS.VERDICT <- v` and `STATUS.VALID <- 1`, every other bit kept (R127). -/
def setVerdict (v : BitVec 3) (st : BitVec 8) : BitVec 8 :=
  (st &&& 0xF8#8) ||| 0x10#8 ||| v.setWidth 8

/-- The verdict OK (R26). -/
def verdictOk : BitVec 3 := 0

/-- The verdict CRC_ERROR (R26). -/
def verdictCrcError : BitVec 3 := 1

/-- The verdict WRONG_HEADER (R26). -/
def verdictWrongHeader : BitVec 3 := 2

/-- R171: the Error Code that a number stands for; 5 to 7 are reserved (R26). -/
def errorCodeOf (n : BitVec 3) : Option ErrorCode :=
  match n.toNat with
  | 0 => some .noError
  | 1 => some .crcError
  | 2 => some .wrongHeaderBytes
  | 3 => some .insufficientBytes
  | 4 => some .timeout
  | _ => none

/-- R171: the number of an Error Code. -/
def errorNumber : ErrorCode → BitVec 3
  | .noError => 0
  | .crcError => 1
  | .wrongHeaderBytes => 2
  | .insufficientBytes => 3
  | .timeout => 4

end Sys2Proof.Machine
end

