-- ==== Sys2Proof/Machine/Operands.lean ====
section
/-! DEFINITION. How a command's operands and a frame's fields are taken apart and put together:
the byte orders of 20_memory.md rules R41 to R45 and the operand assembly of 30_encoding.md rule
R64. -/

namespace Sys2Proof.Machine

/-- `v[15:8]` of a word16 (R64). -/
def hiByte (v : Word16) : Byte := v.extractLsb' 8 8

/-- `v[7:0]` of a word16 (R64). -/
def loByte (v : Word16) : Byte := v.extractLsb' 0 8

/-- `hi ++ lo` as a word16 (R8). -/
def word16Of (hi lo : Byte) : Word16 := hi ++ lo

/-- R42: the received CRC is `RSP[8] ++ RSP[7]`, low byte first on the wire. -/
def receivedCrc (r : Vector Byte 9) : Word16 := word16Of r[8] r[7]

/-- R43, R123: the Decoded Value's pattern, most significant byte first, copied bit for bit. -/
def decodeFloat (r : Vector Byte 9) : Word32 := (r[3] ++ r[4] ++ (r[5] ++ r[6]))

/-- The response bytes that the CRC covers, `RSP[0..6]` (R6, R125). -/
def crcSpan (r : Vector Byte 9) : List Byte := r.toList.take Config.rspCrcSpan

/-- `RSP_LOAD`'s operand form: the byte position named by `IDX`, or none for 9 to 15 (R122). -/
def rspIndex (idx : BitVec 4) : Option (Fin 9) :=
  if h : idx.toNat < 9 then some ⟨idx.toNat, h⟩ else none

end Sys2Proof.Machine
end

