-- ==== Sys2Proof/Machine/Ops.lean ====
section
/-! DEFINITION. The operations that the meanings share: the CRC function, the frame functions, the
writes of the block's elements, the block's one exception, its reset, and its read ports. -/

namespace Sys2Proof.Machine

/-- One iteration of R100's loop: the test of bit 0 comes before the shift, and the shift is logical
(92_eei_decisions.md D16). -/
def crcShift (c : Word16) : Word16 :=
  if c.getLsbD 0 then (c >>> 1) ^^^ Config.crcPoly else c >>> 1

/-- `n` iterations of R100's loop. -/
def crcShifts : Nat → Word16 → Word16
  | 0, c => c
  | n + 1, c => crcShifts n (crcShift c)

/-- R100: one step of the CRC over one byte. -/
def crcStep (c : Word16) (b : Byte) : Word16 := crcShifts 8 (c ^^^ b.setWidth 16)

/-- R101, R102: the CRC of the first `n` bytes of a sequence, folded from the seed in wire order. -/
def crc16 (s : List Byte) (n : Nat) : Word16 := (s.take n).foldl crcStep Config.crcSeed

/-- The six bytes of a request before its CRC (R120, R70). -/
def requestHead (sid : Byte) (reg : Word16) : List Byte :=
  [sid, Config.fcReadInput, hiByte reg, loByte reg, hiByte Config.regCount, loByte Config.regCount]

/-- R120: the request frame for a slave identifier and a register address. -/
def buildRequest (sid : Byte) (reg : Word16) : Vector Byte 8 :=
  let c := crc16 (requestHead sid reg) Config.reqCrcSpan
  #v[sid, Config.fcReadInput, hiByte reg, loByte reg, hiByte Config.regCount,
     loByte Config.regCount, loByte c, hiByte c]

/-- R124: the header check. -/
def headerOk (r : Vector Byte 9) (sid : Byte) : Bool :=
  r[0] == sid && r[1] == Config.fcReadInput && r[2] == Config.dataBytes

/-- R125: the CRC check. -/
def crcOk (r : Vector Byte 9) : Bool := crc16 (crcSpan r) Config.rspCrcSpan == receivedCrc r

/-- R126: the verdict and the value of a response frame; the header check comes first. `nan` is the
parameter `NAN_SENTINEL` (R7). -/
def parseResponse (nan : Word32) (r : Vector Byte 9) (sid : Byte) : BitVec 3 × Word32 :=
  if !headerOk r sid then (verdictWrongHeader, nan)
  else if !crcOk r then (verdictCrcError, nan)
  else (verdictOk, decodeFloat r)

/-- `CRC <- c`. -/
def setCrc (c : Word16) (s : State) : State := { s with block := { s.block with crc := c } }

/-- `REQ[0..7] <- f` and `STATUS.REQV <- 1`, together (R121, R9). -/
def setRequest (f : Vector Byte 8) (s : State) : State :=
  { s with block := { s.block with req := f, status := setReqv s.block.status } }

/-- `RSP[i] <- b` (R122). -/
def setRspByte (i : Fin 9) (b : Byte) (s : State) : State :=
  { s with block := { s.block with rsp := s.block.rsp.set i.val b i.isLt } }

/-- `STATUS.VERDICT <- v`, `STATUS.VALID <- 1` and `VALUE <- x`, together (R127, R9). -/
def setResult (v : BitVec 3) (x : Word32) (s : State) : State :=
  { s with block := { s.block with value := x, status := setVerdict v s.block.status } }

/-- R160, R163: taking the block's one exception, IllegalCommand. It sets `STATUS.ILL` and changes
nothing else: it saves no state, changes no mode and transfers no control, so there is no return
from it and the next command runs. -/
def raiseIllegal (s : State) : State :=
  { s with block := { s.block with status := setIll s.block.status } }

/-- R200: the reset event sets every element of the block at once, and nothing of the host. -/
def resetBlock (s : State) : State := { s with block := Block.reset s.params.nanSentinel }

/-- R32: what a read port returns; the ports have the widths of R20. -/
def readPort (p : Port) (b : Block) : Reply :=
  match p with
  | .crc => .word16 b.crc
  | .req i => .byte b.req[i]
  | .rsp i => .byte b.rsp[i]
  | .value => .word32 b.value
  | .status => .byte b.status

/-- Continue with `f` after a step that answered a next state; a stop stays a stop. -/
def andThen (o : Host.Outcome State Fault Refusal) (f : State → Host.Outcome State Fault Refusal) :
    Host.Outcome State Fault Refusal :=
  match o with
  | .next s => f s
  | .fault r => .fault r
  | .refused r => .refused r

end Sys2Proof.Machine
end

