-- ==== Sys2Proof/Machine/Codec.lean ====
section
/-! DEFINITION. The frame codec's commands (41_codec.md rules R121, R122 and R127). -/

namespace Sys2Proof.Machine

/-- `BUILD_REQ sid, reg` (R121). The frame's CRC comes from `crc16`, not from the accumulator. -/
def execBuildReq (sid : Byte) (reg : Word16) (s : State) : Host.Outcome State Fault Refusal :=
  .next (setRequest (buildRequest sid reg) s)

/-- `RSP_LOAD idx, data` (R122). `IDX` 9 to 15 writes no byte and raises IllegalCommand. -/
def execRspLoad (idx : BitVec 4) (data : Byte) (s : State) : Host.Outcome State Fault Refusal :=
  match rspIndex idx with
  | some i => .next (setRspByte i data s)
  | none => .next (raiseIllegal s)

/-- `PARSE sid` (R127): a failed check is a verdict, not an exception. -/
def execParse (sid : Byte) (s : State) : Host.Outcome State Fault Refusal :=
  let p := parseResponse s.params.nanSentinel s.block.rsp sid
  .next (setResult p.1 p.2 s)

end Sys2Proof.Machine
end

