-- ==== Sys2Proof/Machine/Crc.lean ====
section
/-! DEFINITION. The streaming CRC generator's commands (40_crc.md rules R103 and R104). -/

namespace Sys2Proof.Machine

/-- `CRC_INIT` (R103): the accumulator goes to the seed, whatever it held. -/
def execCrcInit (s : State) : Host.Outcome State Fault Refusal :=
  .next (setCrc Config.crcSeed s)

/-- `CRC_BYTE data` (R104): the accumulator advances by one byte. -/
def execCrcByte (data : Byte) (s : State) : Host.Outcome State Fault Refusal :=
  .next (setCrc (crcStep s.block.crc data) s)

end Sys2Proof.Machine
end

