-- ==== Sys2Proof/Machine/Dispatch.lean ====
section
/-! DEFINITION. One arm per command of the opcode map (30_encoding.md rule R63). -/

namespace Sys2Proof.Machine

def exec (i : Instr) (s : State) : Host.Outcome State Fault Refusal :=
  match i with
  | .crcInit => Sys2Proof.Machine.execCrcInit s
  | .crcByte data => Sys2Proof.Machine.execCrcByte data s
  | .buildReq sid reg => Sys2Proof.Machine.execBuildReq sid reg s
  | .rspLoad idx data => Sys2Proof.Machine.execRspLoad idx data s
  | .parse sid => Sys2Proof.Machine.execParse sid s

end Sys2Proof.Machine
end

