-- ==== Sys2Proof/Machine/Issue.lean ====
section
/-! DEFINITION. Issuing a command word to the block: decode first, then execute (60_exceptions.md
rule R164), and a sequence of commands in issue order (20_memory.md rule R48). -/

namespace Sys2Proof.Machine

/-- The block takes one command word. An illegal word raises IllegalCommand and performs no part of
any command (R164, R160). -/
def issueWord (w : Word32) (s : State) : Host.Outcome State Fault Refusal :=
  match decode w with
  | .command i => exec i s
  | .illegal _ => .next (raiseIllegal s)

/-- Commands executed one at a time, in order (R48). -/
def runInstrs : List Instr → State → Host.Outcome State Fault Refusal
  | [], s => .next s
  | i :: is, s => andThen (exec i s) (runInstrs is)

/-- Command words issued one at a time, in order (R48). -/
def runWords : List Word32 → State → Host.Outcome State Fault Refusal
  | [], s => .next s
  | w :: ws, s => andThen (issueWord w s) (runWords ws)

end Sys2Proof.Machine
end

