-- ==== Sys2Proof/Machine/Engine.lean ====
section
/-! DEFINITION. The host's reference behaviour (60_exceptions.md Part 2): the Link Controller, the
Diagnostics State, the call surface and the Transaction Engine. Time is the clock reading that the
schedule supplies with each engine step; the model itself keeps none (70_reset_and_hazards.md R208). -/

namespace Sys2Proof.Machine

/-! ### Link Controller and channel -/

/-- R179: `setDirection` sets the direction line when there is one, and is a no-op otherwise. -/
def setDirection (d : Dir) (s : State) : State :=
  if s.params.hasDirLine then { s with engine := { s.engine with dir := d } } else s

/-- Discard every unread byte on the channel (R176). -/
def discardRx (s : State) : State := { s with chan := { s.chan with rx := [] } }

/-- Write bytes to the channel (R173 step 5). -/
def writeChannel (bs : List Byte) (s : State) : State :=
  { s with chan := { s.chan with tx := s.chan.tx ++ bs } }

/-- The channel delivers a byte. While the line is in transmit direction it is lost (R205). -/
def arriveByte (b : Byte) (s : State) : State :=
  match s.engine.dir with
  | .rx => { s with chan := { s.chan with rx := s.chan.rx ++ [b] } }
  | .tx => s

/-- The channel loses its oldest unread byte (R175; 92_eei_decisions.md D21). -/
def loseByte (s : State) : State := { s with chan := { s.chan with rx := s.chan.rx.tail } }

/-- The transport finishes sending its oldest written byte (R173 step 6). -/
def sendByte (s : State) : State :=
  match s.chan.tx with
  | [] => s
  | b :: rest => { s with chan := { s.chan with tx := rest, line := s.chan.line ++ [b] } }

/-! ### Timing setters and Diagnostics State -/

/-- R180: `min(max(v, 20), 5000)`. -/
def clampMs (v : Word16) : Word16 :=
  if v < Config.tMin then Config.tMin else if Config.tMax < v then Config.tMax else v

/-- R177, R183: one counter goes up by exactly 1, wrapping at 2^32, and the Error Code is kept. -/
def recordExchange (err : ErrorCode) (e : Engine) : Engine :=
  if err = .noError then { e with errorCode := err, successCount := e.successCount + 1 }
  else { e with errorCode := err, errorCount := e.errorCount + 1 }

/-! ### The Transaction Engine -/

/-- A transaction is in flight: `readValue` has been called and has not returned (R172). -/
def Engine.inFlight (e : Engine) : Bool :=
  match e.phase with
  | .idle => false
  | .done => false
  | .transmitting _ => true
  | .awaitingResponse => true
  | .validating _ => true
  | .draining _ => true

/-- The engine goes on at another step. -/
def goTo (p : Phase) (s : State) : State := { s with engine := { s.engine with phase := p } }

/-- The engine's present wait begins at the clock reading `now`. -/
def startWait (now : Nat) (s : State) : State :=
  { s with engine := { s.engine with txn := { s.engine.txn with t0 := now } } }

/-- `now - t0` in ms. -/
def elapsed (now : Nat) (s : State) : Nat := now - s.engine.txn.t0

/-- `err <- e` and `value <- x`. -/
def setOutcome (e : ErrorCode) (x : Word32) (s : State) : State :=
  { s with engine := { s.engine with txn := { s.engine.txn with err := e, value := x } } }

/-- The command words R175 issues for the 9 bytes read: `RSP_LOAD k, b[k]` for k = 0..8, then
`PARSE sid`. -/
def parseWords (b : List Byte) (sid : Byte) : List Word32 :=
  b.zipIdx.map (fun p => encode (.rspLoad (BitVec.ofNat 4 p.2) p.1)) ++ [encode (.parse sid)]

/-- R177, R178: Draining to Done. One counter goes up, the Error Code is kept, the line is in
receive direction, and `readValue` returns the value. -/
def finishExchange (s : State) : State :=
  let e := recordExchange s.engine.txn.err s.engine
  setDirection .rx
    { s with engine := { e with phase := .done }, reply := some (.word32 s.engine.txn.value) }

/-- R173: the ordered steps from Idle through Transmitting to AwaitingResponse. -/
def transmitStep (stage : TxStep) (now : Nat) (s : State) : Host.Outcome State Fault Refusal :=
  match stage with
  | .preFlush =>
    .next (goTo (.transmitting .build) { s with chan := { s.chan with rx := [], line := [] } })
  | .build =>
    andThen (issueWord (encode (.buildReq s.engine.txn.sid s.engine.txn.reg)) s)
      fun t => .next (goTo (.transmitting .assertTx) t)
  | .assertTx => .next (goTo (.transmitting .settle) (startWait now (setDirection .tx s)))
  | .settle =>
    if s.params.tSettle ≤ elapsed now s then .next (goTo (.transmitting .write) s) else .next s
  | .write =>
    .next (goTo (.transmitting .waitSent) (writeChannel s.block.req.toList s))
  | .waitSent =>
    match s.chan.tx with
    | [] => .next (goTo .awaitingResponse (startWait now (setDirection .rx s)))
    | _ :: _ => .next s

/-- R174: one iteration of the poll. Nine bytes are looked for first; with fewer, the exchange times
out once more than `turnaroundMs` have passed, and no byte is consumed. -/
def pollStep (now : Nat) (s : State) : State :=
  if Config.rspLen ≤ s.chan.rx.length then goTo (.validating .read) s
  else if s.engine.turnaroundMs.toNat < elapsed now s then
    goTo (.draining .start) (setOutcome .timeout s.params.nanSentinel s)
  else s

/-- R175: read the response, then issue its commands, then take the verdict. -/
def validateStep (stage : ValStep) (s : State) : Host.Outcome State Fault Refusal :=
  match stage with
  | .read =>
    let b := s.chan.rx.take Config.rspLen
    let t := { s with chan := { s.chan with rx := s.chan.rx.drop Config.rspLen } }
    if b.length < Config.rspLen then
      .next (goTo (.draining .start) (setOutcome .insufficientBytes s.params.nanSentinel t))
    else .next (goTo (.validating (.issue (parseWords b s.engine.txn.sid))) t)
  | .issue (w :: ws) =>
    andThen (issueWord w s) fun t => .next (goTo (.validating (.issue ws)) t)
  | .issue [] =>
    match errorCodeOf (verdict s.block.status) with
    | some e => .next (goTo (.draining .start) (setOutcome e s.block.value s))
    | none => .fault .reservedVerdict

/-- R176: one step of the drain, which is the Link Controller's `flush(timeoutMs)` (R179): it
returns at once when the channel is already idle. Otherwise it discards bytes as they arrive until
`timeoutMs` have passed, and a byte present then makes the Error Code Timeout and leaves the value.
Log entry 6. That `timeoutMs` is read again at each step, so that a `setTimeoutMs` during a drain changes
the drain under way, is the model's choice (log entry 17, DESIGN CHOICE). -/
def drainStep (stage : DrainStep) (now : Nat) (s : State) : State :=
  match stage with
  | .start =>
    match s.chan.rx with
    | [] => finishExchange s
    | _ :: _ => goTo (.draining .collecting) (startWait now s)
  | .collecting =>
    if s.engine.timeoutMs.toNat ≤ elapsed now s then
      match s.chan.rx with
      | [] => finishExchange s
      | _ :: _ => finishExchange (setOutcome .timeout s.engine.txn.value s)
    else discardRx s

/-- One step of the Transaction Engine (R172). It does nothing when no transaction is in flight. -/
def engineStep (now : Nat) (s : State) : Host.Outcome State Fault Refusal :=
  match s.engine.phase with
  | .idle => .next s
  | .transmitting stage => transmitStep stage now s
  | .awaitingResponse => .next (pollStep now s)
  | .validating stage => validateStep stage s
  | .draining stage => .next (drainStep stage now s)
  | .done => .next s

/-! ### The call surface -/

/-- R184, R173: a call of `readValue` starts a transaction. It has not returned yet. -/
def startTransaction (reg : Word16) (sid : Byte) (s : State) : State :=
  { s with
    engine :=
      { s.engine with
        phase := .transmitting .preFlush
        txn := { s.engine.txn with
          reg := reg, sid := sid, err := .noError, value := s.params.nanSentinel } }
    reply := none }

/-- The calls of R180, R181, R182 and R184. A get with `clear` returns the value before the clear. -/
def hostCall (c : HostCall) (s : State) : Host.Outcome State Fault Refusal :=
  match c with
  | .readValue reg sid =>
    if s.engine.inFlight then .refused .concurrentTransaction
    else .next (startTransaction reg (sid.getD Config.defaultSlaveId) s)
  | .setTurnaroundMs v =>
    .next { s with engine := { s.engine with turnaroundMs := clampMs v }, reply := some .unit }
  | .setTimeoutMs v =>
    .next { s with engine := { s.engine with timeoutMs := clampMs v }, reply := some .unit }
  | .getTurnaroundMs => .next { s with reply := some (.word16 s.engine.turnaroundMs) }
  | .getTimeoutMs => .next { s with reply := some (.word16 s.engine.timeoutMs) }
  | .getErrorCode clear =>
    .next { s with
      engine := { s.engine with errorCode := if clear then .noError else s.engine.errorCode }
      reply := some (.code s.engine.errorCode) }
  | .getErrorCount clear =>
    .next { s with
      engine := { s.engine with errorCount := if clear then 0 else s.engine.errorCount }
      reply := some (.word32 s.engine.errorCount) }
  | .getSuccessCount clear =>
    .next { s with
      engine := { s.engine with successCount := if clear then 0 else s.engine.successCount }
      reply := some (.word32 s.engine.successCount) }
  | .clearErrorCode =>
    .next { s with engine := { s.engine with errorCode := .noError }, reply := some .unit }
  | .clearErrorCount =>
    .next { s with engine := { s.engine with errorCount := 0 }, reply := some .unit }
  | .clearSuccessCount =>
    .next { s with engine := { s.engine with successCount := 0 }, reply := some .unit }

end Sys2Proof.Machine
end

