-- ==== Sys2Proof/Machine/Inputs.lean ====
section
/-! DEFINITION. What one input does to the machine (60_exceptions.md rule R187), and which input a
step takes. -/

namespace Sys2Proof.Machine

/-- One input. A client's command stream and the Transaction Engine's do not interleave (R170), so a
client's command word is refused while a transaction is in flight. -/
def takeInput (i : Input) (s : State) : Host.Outcome State Fault Refusal :=
  match i with
  | .command w => if s.engine.inFlight then .refused .interleavedStreams else issueWord w s
  | .reset => .next (resetBlock s)
  | .readPort p => .next { s with reply := some (readPort p s.block) }
  | .call c => hostCall c s
  | .engine now => engineStep now s
  | .arrive b => .next (arriveByte b s)
  | .lose => .next (loseByte s)
  | .sent => .next (sendByte s)

/-- The next input in the host's order is taken off the list and happens (R30, R31). When none is
left nothing is issued and all state survives (R166). -/
def stepInput (s : State) : Host.Outcome State Fault Refusal :=
  match s.inputs with
  | [] => .next s
  | i :: rest => takeInput i { s with inputs := rest }

/-- `s` with the command word `w` as the next input, from a client that may issue it (no transaction
is in flight). -/
def placeCommand (w : Word32) (s : State) : State :=
  { s with
    inputs := .command w :: s.inputs
    engine := { s.engine with phase := if s.engine.inFlight then .idle else s.engine.phase } }

end Sys2Proof.Machine
end

