-- ==== Sys2Proof/Machine/Asm.lean ====
section
/-! DEFINITION. The assembler syntax and the pseudo-instructions (30_encoding.md rules R67 and R68).
They are a way to write command words down, not a property of the block (92_eei_decisions.md D17).
Text is a list of characters. -/

namespace Sys2Proof.Asm

/-! ### Pseudo-instructions (R68) -/

/-- `CRC_BUF b0, ..., b(n-1)`: `CRC_INIT`, then `CRC_BYTE bk` in order. -/
def crcBuf (bs : List Byte) : List Instr := .crcInit :: bs.map .crcByte

/-- `LOAD_FRAME r0, ..., r8`: `RSP_LOAD k, rk` for k = 0..8. -/
def loadFrame (r : Vector Byte 9) : List Instr :=
  r.toList.zipIdx.map fun p => .rspLoad (BitVec.ofNat 4 p.2) p.1

/-- `DECODE sid, r0, ..., r8`: `LOAD_FRAME r0, ..., r8`, then `PARSE sid`. -/
def decodeFrame (sid : Byte) (r : Vector Byte 9) : List Instr := loadFrame r ++ [.parse sid]

/-! ### Numbers and operands (R67) -/

/-- The value of a digit character, at most 15. -/
def digitValue (c : Char) : Option Nat :=
  if '0' ≤ c ∧ c ≤ '9' then some (c.toNat - 48)
  else if 'A' ≤ c ∧ c ≤ 'F' then some (c.toNat - 55)
  else if 'a' ≤ c ∧ c ≤ 'f' then some (c.toNat - 87)
  else none

/-- The number that digits of a base continue from `acc`; none where a character is no digit of it. -/
def digitsFrom (base : Nat) : Nat → List Char → Option Nat
  | acc, [] => some acc
  | acc, c :: cs =>
    match digitValue c with
    | some d => if d < base then digitsFrom base (acc * base + d) cs else none
    | none => none

/-- A number: `0x` and hexadecimal digits, or decimal digits; at least one digit. -/
def number (cs : List Char) : Option Nat :=
  match cs with
  | [] => none
  | '0' :: 'x' :: [] => none
  | '0' :: 'x' :: h :: hs => digitsFrom 16 0 (h :: hs)
  | d :: ds => digitsFrom 10 0 (d :: ds)

/-- The characters with the blanks at both ends left out. -/
def trim (cs : List Char) : List Char :=
  ((cs.dropWhile (· == ' ')).reverse.dropWhile (· == ' ')).reverse

/-- The pieces of a text between the commas. -/
def commaPieces : List Char → List (List Char)
  | [] => [[]]
  | c :: cs =>
    if c = ',' then [] :: commaPieces cs
    else
      match commaPieces cs with
      | [] => [[c]]
      | p :: ps => (c :: p) :: ps

/-- The operands of a line: none at all, or numbers separated by commas. -/
def operands (cs : List Char) : Option (List Nat) :=
  match trim cs with
  | [] => some []
  | t => (commaPieces t).mapM fun p => number (trim p)

/-- A number as a byte; one that does not fit is an assembly error and is not encoded. -/
def byteOperand (n : Nat) : Option Byte := if n < 256 then some (BitVec.ofNat 8 n) else none

/-- A number as a word16; one that does not fit is an assembly error and is not encoded. -/
def word16Operand (n : Nat) : Option Word16 :=
  if n < 65536 then some (BitVec.ofNat 16 n) else none

/-- A number as a byte position 0 to 8. -/
def indexOperand (n : Nat) : Option (BitVec 4) := if n ≤ 8 then some (BitVec.ofNat 4 n) else none

/-- Exactly nine numbers as a frame. -/
def frameOperands (ns : List Nat) : Option (Vector Byte 9) :=
  match ns.mapM byteOperand with
  | some [a, b, c, d, e, f, g, h, i] => some #v[a, b, c, d, e, f, g, h, i]
  | _ => none

/-! ### Lines -/

/-- `CRC_INIT` (R67). -/
def assembleCrcInit : List Nat → Option (List Instr)
  | [] => some [.crcInit]
  | _ :: _ => none

/-- `CRC_BYTE <data>` (R67). -/
def assembleCrcByte : List Nat → Option (List Instr)
  | [d] => (byteOperand d).map fun data => [.crcByte data]
  | _ => none

/-- `BUILD_REQ <sid>, <reg>` (R67). -/
def assembleBuildReq : List Nat → Option (List Instr)
  | [s, r] => (byteOperand s).bind fun sid => (word16Operand r).map fun reg => [.buildReq sid reg]
  | _ => none

/-- `RSP_LOAD <idx>, <data>` (R67). -/
def assembleRspLoad : List Nat → Option (List Instr)
  | [i, d] => (indexOperand i).bind fun idx => (byteOperand d).map fun data => [.rspLoad idx data]
  | _ => none

/-- `PARSE <sid>` (R67). -/
def assembleParse : List Nat → Option (List Instr)
  | [s] => (byteOperand s).map fun sid => [.parse sid]
  | _ => none

/-- `CRC_BUF b0, ..., b(n-1)` (R68). -/
def assembleCrcBuf (ns : List Nat) : Option (List Instr) := (ns.mapM byteOperand).map crcBuf

/-- `LOAD_FRAME r0, ..., r8` (R68). -/
def assembleLoadFrame (ns : List Nat) : Option (List Instr) := (frameOperands ns).map loadFrame

/-- `DECODE sid, r0, ..., r8` (R68). -/
def assembleDecode : List Nat → Option (List Instr)
  | [] => none
  | s :: rs => (byteOperand s).bind fun sid => (frameOperands rs).map (decodeFrame sid)

/-- The commands that a mnemonic with its operands stands for: one for a core mnemonic (R67), the
expansion for a pseudo-instruction (R68), none for an assembly error. -/
def assemble (mnemonic : List Char) (ns : List Nat) : Option (List Instr) :=
  if mnemonic = "CRC_INIT".toList then assembleCrcInit ns
  else if mnemonic = "CRC_BYTE".toList then assembleCrcByte ns
  else if mnemonic = "BUILD_REQ".toList then assembleBuildReq ns
  else if mnemonic = "RSP_LOAD".toList then assembleRspLoad ns
  else if mnemonic = "PARSE".toList then assembleParse ns
  else if mnemonic = "CRC_BUF".toList then assembleCrcBuf ns
  else if mnemonic = "LOAD_FRAME".toList then assembleLoadFrame ns
  else if mnemonic = "DECODE".toList then assembleDecode ns
  else none

/-- One line: the mnemonic, a blank, and the operands. -/
def assembleLine (line : List Char) : Option (List Instr) :=
  let t := trim line
  let mnemonic := t.takeWhile (· != ' ')
  (operands (t.drop mnemonic.length)).bind (assemble mnemonic)

/-- A program: one line each, in order. -/
def assembleLines (ls : List (List Char)) : Option (List Instr) :=
  (ls.mapM assembleLine).map List.flatten

/-- The command words of a program. -/
def words (is : List Instr) : List Word32 := is.map encode

end Sys2Proof.Asm
end

