-- ==== Sys2Proof/Machine/Links.lean ====
section
/-! DEFINITION. A host that drives several links uses one instance per link, and instances share
nothing (10_state.md rule R35, 60_exceptions.md rule R167). -/

namespace Sys2Proof.Machine

/-- One step of the link number `k` of several. A number that names no link moves nothing. -/
def stepLink (k : Nat) (links : List State) : Host.Outcome (List State) Fault Refusal :=
  match links[k]? with
  | none => .next links
  | some s =>
    match step s with
    | .next t => .next (links.set k t)
    | .fault r => .fault r
    | .refused r => .refused r

end Sys2Proof.Machine
end

