-- ==== Sys2Proof/Safety.lean ====
section
/-! DEFINITION. What statements about runs are said in: the invariants of the block and of the host,
and runs over the inputs. -/

namespace Sys2Proof.Machine

/-- What holds of the block in every run: the legal values of `STATUS` (10_state.md rules R25, R26)
and what `VALID` and `REQV` say about the other elements (R24, R26 to R28, R33). -/
structure Block.Ok (nan : Word32) (b : Block) : Prop where
  /-- R25: bits 3 and 7 read as 0. -/
  reserved : reservedZero b.status = true
  /-- R26: the block writes only 0, 1 or 2. -/
  verdictLegal : (verdict b.status).toNat ≤ 2
  /-- R26, R33: with `VALID` = 0, `VERDICT` and `VALUE` hold their reset values. -/
  unparsed : valid b.status = false → verdict b.status = verdictOk ∧ b.value = nan
  /-- R24: after a PARSE whose verdict is not OK, `VALUE` holds `NAN_SENTINEL`. -/
  failed : verdict b.status ≠ verdictOk → b.value = nan
  /-- R28, R33: with `REQV` = 0, `REQ` holds its reset value. -/
  unbuilt : reqv b.status = false → b.req = (Block.reset nan).req
  /-- R28: with `REQV` = 1, `REQ` holds a built frame. -/
  built : reqv b.status = true → ∃ sid reg, b.req = buildRequest sid reg

/-- What holds of the host in every run (60_exceptions.md Part 2). -/
structure Engine.Ok (p : Params) (e : Engine) : Prop where
  /-- R172, R180: the turnaround timeout stays in [20, 5000]. -/
  turnaround : 20 ≤ e.turnaroundMs.toNat ∧ e.turnaroundMs.toNat ≤ 5000
  /-- R172, R180: the drain timeout stays in [20, 5000]. -/
  timeout : 20 ≤ e.timeoutMs.toNat ∧ e.timeoutMs.toNat ≤ 5000
  /-- R173, R178, R179: transmit direction is held only when there is a line, and only from its
  assertion until the transport has sent the request. -/
  direction : e.dir = .tx → p.hasDirLine = true ∧
    (e.phase = .transmitting .settle ∨ e.phase = .transmitting .write ∨
      e.phase = .transmitting .waitSent)
  /-- R175: what is left to issue are legal command words. -/
  commands : ∀ ws, e.phase = .validating (.issue ws) → ∀ w ∈ ws, ∃ i, decode w = .command i
  /-- R174, R175: an exchange that has failed before its drain has the value `NAN_SENTINEL`. -/
  outcome : ∀ d, e.phase = .draining d → e.txn.err ≠ .noError → e.txn.value = p.nanSentinel

/-- The invariant of the machine. -/
structure State.Ok (s : State) : Prop where
  block : s.block.Ok s.params.nanSentinel
  engine : s.engine.Ok s.params
  /-- R173 step 6: outside the wait for the transport, nothing written is still unsent. -/
  sentAll : s.engine.phase ≠ .transmitting .waitSent → s.chan.tx = []

/-- `n` steps of the machine, stopping at the first fault or refusal. -/
def run : Nat → State → Host.Outcome State Fault Refusal
  | 0, s => .next s
  | n + 1, s => andThen (step s) (run n)

/-- The data bytes that a sequence of commands feeds to the accumulator, in order. -/
def crcBytes : List Instr → List Byte
  | [] => []
  | .crcInit :: is => crcBytes is
  | .crcByte d :: is => d :: crcBytes is
  | .buildReq _ _ :: is => crcBytes is
  | .rspLoad _ _ :: is => crcBytes is
  | .parse _ :: is => crcBytes is

end Sys2Proof.Machine
end

