-- ==== Sys2Proof/Certificates/Slice0/Obligations.lean ====
section
/-! DEFINITION. The statements of this model, from the numbered rules of the spec. -/

open Sys2Proof Sys2Proof.Machine

/-! ### Encoding (30_encoding.md) -/

/-- The decoder reads back every well-formed command from its word (R62, R65). -/
def Obligations.DecodeOfEncode : Prop :=
  ∀ i : Instr, i.wellFormed = true → decode (encode i) = .command i

/-- The decoder drops no bit: a word that decodes is the word of what it decodes to (R65, R66). -/
def Obligations.EncodeOfDecode : Prop :=
  ∀ (w : Word32) (i : Instr), decode w = .command i → encode i = w ∧ i.wellFormed = true

/-- R63: a word is legal exactly when it matches one row under the row's mask and meets the row's
extra condition, and it is then that row's command and hits no other row. -/
def Obligations.LegalExactlyByOpcodeMap : Prop :=
  (∀ w : Word32, (∃ i, decode w = .command i) ↔ legalByMap w = true) ∧
  ∀ (w : Word32) (i : Instr), decode w = .command i → ∀ r ∈ opTable, r.hits w = true ↔ r = i.row

/-- R66: exactly these words are illegal, and each raises IllegalCommand. -/
def Obligations.IllegalExactlyByReservedBits : Prop :=
  ∀ w : Word32,
    ((∃ why, decode w = .illegal why) ↔
      ((field w 28 4 = 0x0#4 ∨ 0x6#4 ≤ field w 28 4) ∨
       (field w 28 4 = 0x1#4 ∧ field w 0 28 ≠ 0#28) ∨
       (field w 28 4 = 0x2#4 ∧ field w 8 20 ≠ 0#20) ∨
       (field w 28 4 = 0x3#4 ∧ field w 24 4 ≠ 0#4) ∨
       (field w 28 4 = 0x4#4 ∧ field w 8 16 ≠ 0#16) ∨
       (field w 28 4 = 0x5#4 ∧ (field w 24 4 ≠ 0#4 ∨ field w 0 16 ≠ 0#16)) ∨
       (field w 28 4 = 0x4#4 ∧ 9#4 ≤ field w 24 4))) ∧
    ∀ (s : State) (why : IllegalReason), decode w = .illegal why →
      issueWord w s = .next (raiseIllegal s)

/-- Words written out from the formats of R62, one a format (sanity). -/
def Obligations.WrittenWordsDecode : Prop :=
  decode 0b00010000000000000000000000000000#32 = .command .crcInit ∧
  decode 0b00100000000000000000000010000001#32 = .command (.crcByte 0x81) ∧
  decode 0b00110000111101110000000100000000#32 = .command (.buildReq 247 0x0100) ∧
  decode 0b01001000000000000000000010101110#32 = .command (.rspLoad 8 0xAE) ∧
  decode 0b01010000000000010000000000000000#32 = .command (.parse 1)

/-- R67, R68: each mnemonic accepts exactly the operand lists whose numbers fit their fields, and the
commands' fields have those numbers as their values: an operand list that is `toNat` of field values
is accepted with those field values, and every other one (a number too large for its field, too few
operands or too many) is an assembly error. That no other mnemonic is accepted, so none in lower case,
is the model's choice (log entry 14, DESIGN CHOICE). Whatever is accepted is well formed. -/
def Obligations.AssembledCommandsAreWellFormed : Prop :=
  ∀ (ns : List Nat) (is : List Instr),
    (Asm.assemble "CRC_INIT".toList ns = some is ↔ ns = [] ∧ is = [.crcInit]) ∧
    (Asm.assemble "CRC_BYTE".toList ns = some is ↔
      ∃ n, ns = [n] ∧ n < 256 ∧ ∃ data : Byte, data.toNat = n ∧ is = [.crcByte data]) ∧
    (Asm.assemble "BUILD_REQ".toList ns = some is ↔
      ∃ n m, ns = [n, m] ∧ n < 256 ∧ m < 65536 ∧ ∃ (sid : Byte) (reg : Word16),
        sid.toNat = n ∧ reg.toNat = m ∧ is = [.buildReq sid reg]) ∧
    (Asm.assemble "RSP_LOAD".toList ns = some is ↔
      ∃ n m, ns = [n, m] ∧ n ≤ 8 ∧ m < 256 ∧ ∃ (idx : BitVec 4) (data : Byte),
        idx.toNat = n ∧ data.toNat = m ∧ is = [.rspLoad idx data]) ∧
    (Asm.assemble "PARSE".toList ns = some is ↔
      ∃ n, ns = [n] ∧ n < 256 ∧ ∃ sid : Byte, sid.toNat = n ∧ is = [.parse sid]) ∧
    (Asm.assemble "CRC_BUF".toList ns = some is ↔
      ∃ bs : List Byte, ns = bs.map BitVec.toNat ∧ is = .crcInit :: bs.map .crcByte) ∧
    (Asm.assemble "LOAD_FRAME".toList ns = some is ↔
      ∃ r : Vector Byte 9, ns = r.toList.map BitVec.toNat ∧
        is = [.rspLoad 0 r[0], .rspLoad 1 r[1], .rspLoad 2 r[2], .rspLoad 3 r[3], .rspLoad 4 r[4],
          .rspLoad 5 r[5], .rspLoad 6 r[6], .rspLoad 7 r[7], .rspLoad 8 r[8]]) ∧
    (Asm.assemble "DECODE".toList ns = some is ↔
      ∃ (sid : Byte) (r : Vector Byte 9), ns = sid.toNat :: r.toList.map BitVec.toNat ∧
        is = [.rspLoad 0 r[0], .rspLoad 1 r[1], .rspLoad 2 r[2], .rspLoad 3 r[3], .rspLoad 4 r[4],
          .rspLoad 5 r[5], .rspLoad 6 r[6], .rspLoad 7 r[7], .rspLoad 8 r[8], .parse sid]) ∧
    ∀ mnemonic : List Char, Asm.assemble mnemonic ns = some is →
      mnemonic ∈ ["CRC_INIT".toList, "CRC_BYTE".toList, "BUILD_REQ".toList, "RSP_LOAD".toList,
        "PARSE".toList, "CRC_BUF".toList, "LOAD_FRAME".toList, "DECODE".toList] ∧
      ∀ i ∈ is, i.wellFormed = true

/-! ### The CRC (40_crc.md) -/

/-- R100: the step over one byte. -/
def Obligations.CrcStepIsTheBitwiseLoop : Prop :=
  ∀ (c : Word16) (b : Byte),
    crcStep c b =
      (fun x : Word16 => if x.getLsbD 0 = true then (x >>> 1) ^^^ 0xA001#16 else x >>> 1)^[8]
        (c ^^^ b.setWidth 16)

/-- R101, R102: the step folded over the first n bytes in wire order, from the seed. -/
def Obligations.CrcSixteenIsTheFold : Prop :=
  (∀ s : List Byte, crc16 s 0 = 0xFFFF#16) ∧
  (∀ (s : List Byte) (n : Nat) (h : n < s.length),
    crc16 s (n + 1) = crcStep (crc16 s n) s[n]) ∧
  (∀ (s t : List Byte) (n : Nat), s.take n = t.take n → crc16 s n = crc16 t n)

/-- The step is linear over exclusive or (a consequence of R100). -/
def Obligations.CrcStepIsLinear : Prop :=
  ∀ (c d : Word16) (a b : Byte), crcStep (c ^^^ d) (a ^^^ b) = crcStep c a ^^^ crcStep d b

/-- The CRC of a message followed by its own CRC, low byte first (R42), is 0: the residue that
95_test_vectors.md 2.1 observes, for every message. -/
def Obligations.CrcOfCheckedMessageIsZero : Prop :=
  ∀ s : List Byte,
    crc16 (s ++ [loByte (crc16 s s.length), hiByte (crc16 s s.length)]) (s.length + 2) = 0#16

/-- R103: CRC_INIT. -/
def Obligations.CrcInitSetsTheSeed : Prop :=
  decode 0x10000000#32 = .command .crcInit ∧
  (∀ s : State,
    exec .crcInit s = .next { s with block := { s.block with crc := 0xFFFF#16 } }) ∧
  (∀ w : Word32, field w 28 4 = 0x1#4 → field w 0 28 ≠ 0#28 → ∃ why, decode w = .illegal why)

/-- R104: CRC_BYTE. The last clauses are the corner cases that R104 lists, and R106's trace, all of
which the spec itself marks as derived from R100. -/
def Obligations.CrcByteAdvancesTheAccumulator : Prop :=
  (∀ data : Byte, decode (0x20000000#32 ||| data.setWidth 32) = .command (.crcByte data)) ∧
  (∀ (data : Byte) (s : State),
    exec (.crcByte data) s =
      .next { s with block := { s.block with crc := crcStep s.block.crc data } }) ∧
  (∀ w : Word32, field w 28 4 = 0x2#4 → field w 8 20 ≠ 0#20 → ∃ why, decode w = .illegal why) ∧
  crcStep 0x0000 0x00 = 0x0000#16 ∧ crcStep 0xFFFF 0xFF = 0x00FF#16 ∧
  crcStep 0x00FF 0xFF = 0x0000#16 ∧ crcStep 0x0000 0x80 = 0xA001#16 ∧
  crcStep 0x8000 0x00 = 0x0080#16 ∧ crcStep 0xFFFF 0x01 = 0x807E#16 ∧
  crcStep 0x807E 0x01 ≠ 0x807E#16

/-- R105: the streaming generator agrees with the function, whatever `CRC` held and whatever other
commands are interleaved; right after reset the leading CRC_INIT may be left out. The spec marks R105
as derived from R101, R103, R104 and R33. -/
def Obligations.StreamingGeneratorEqualsCrcSixteen : Prop :=
  ∀ is : List Instr, (∀ i ∈ is, i ≠ .crcInit) →
    (∀ s : State, ∃ t, runInstrs (.crcInit :: is) s = .next t ∧
      t.block.crc = crc16 (crcBytes is) (crcBytes is).length) ∧
    ∃ t, runInstrs is State.reset = .next t ∧
      t.block.crc = crc16 (crcBytes is) (crcBytes is).length

/-! ### The frame codec (41_codec.md) -/

/-- R121, R120, R70: BUILD_REQ writes the whole request frame and sets `REQV`, for every slave
identifier and register address. The last clause is R121's example, which the spec itself marks as
derived from R120, R101 and 90_conflicts.md C2. -/
def Obligations.BuildReqWritesTheFrame : Prop :=
  (∀ (sid : Byte) (reg : Word16),
    decode (0x30000000#32 ||| (sid.setWidth 32 <<< 16) ||| reg.setWidth 32) =
      .command (.buildReq sid reg)) ∧
  (∀ (sid : Byte) (reg : Word16) (s : State),
    exec (.buildReq sid reg) s =
      .next { s with
        block := { s.block with
          req :=
            #v[sid, 0x04#8, reg.extractLsb' 8 8, reg.extractLsb' 0 8, 0x00#8, 0x02#8,
              (crc16 [sid, 0x04#8, reg.extractLsb' 8 8, reg.extractLsb' 0 8, 0x00#8, 0x02#8]
                6).extractLsb' 0 8,
              (crc16 [sid, 0x04#8, reg.extractLsb' 8 8, reg.extractLsb' 0 8, 0x00#8, 0x02#8]
                6).extractLsb' 8 8]
          status := s.block.status ||| 0b00100000#8 } }) ∧
  (∀ w : Word32, field w 28 4 = 0x3#4 → field w 24 4 ≠ 0#4 → ∃ why, decode w = .illegal why) ∧
  buildRequest 1 0x0000 = #v[0x01, 0x04, 0x00, 0x00, 0x00, 0x02, 0x71, 0xCB]

/-- R122: RSP_LOAD writes the one byte that `IDX` names, and a word with `IDX` 9 to 15 is illegal
(R66). That executing the ill-formed term with `IDX` 9 to 15, which no word decodes to, writes no byte
and sets `ILL` is the model's reading (log entry 13, DEDUCED). -/
def Obligations.RspLoadWritesOneByte : Prop :=
  (∀ (idx : BitVec 4) (data : Byte), idx ≤ 8#4 →
    decode (0x40000000#32 ||| (idx.setWidth 32 <<< 24) ||| data.setWidth 32) =
      .command (.rspLoad idx data)) ∧
  (∀ (idx : BitVec 4) (data : Byte) (s : State), idx ≤ 8#4 →
    exec (.rspLoad idx data) s =
      .next { s with
        block := { s.block with
          rsp := Vector.ofFn fun j : Fin 9 => if j.val = idx.toNat then data else s.block.rsp[j] } }) ∧
  (∀ (idx : BitVec 4) (data : Byte) (s : State), 9#4 ≤ idx →
    exec (.rspLoad idx data) s =
      .next { s with block := { s.block with status := s.block.status ||| 0b01000000#8 } }) ∧
  (∀ w : Word32, field w 28 4 = 0x4#4 → 9#4 ≤ field w 24 4 → ∃ why, decode w = .illegal why)

/-- R127, with R123 to R126: PARSE classifies the frame in `RSP`, header first, and writes
`VERDICT`, `VALID` and `VALUE` and nothing else. -/
def Obligations.ParseClassifiesTheFrame : Prop :=
  (∀ sid : Byte,
    decode (0x50000000#32 ||| (sid.setWidth 32 <<< 16)) = .command (.parse sid)) ∧
  (∀ (sid : Byte) (s : State),
    (¬(s.block.rsp[0] = sid ∧ s.block.rsp[1] = 0x04#8 ∧ s.block.rsp[2] = 0x04#8) →
      exec (.parse sid) s =
        .next { s with
          block := { s.block with
            value := s.params.nanSentinel
            status := (s.block.status &&& 0b11111000#8) ||| 0b00010010#8 } }) ∧
    ((s.block.rsp[0] = sid ∧ s.block.rsp[1] = 0x04#8 ∧ s.block.rsp[2] = 0x04#8) →
      crc16 [s.block.rsp[0], s.block.rsp[1], s.block.rsp[2], s.block.rsp[3], s.block.rsp[4],
        s.block.rsp[5], s.block.rsp[6]] 7 ≠ s.block.rsp[8] ++ s.block.rsp[7] →
      exec (.parse sid) s =
        .next { s with
          block := { s.block with
            value := s.params.nanSentinel
            status := (s.block.status &&& 0b11111000#8) ||| 0b00010001#8 } }) ∧
    ((s.block.rsp[0] = sid ∧ s.block.rsp[1] = 0x04#8 ∧ s.block.rsp[2] = 0x04#8) →
      crc16 [s.block.rsp[0], s.block.rsp[1], s.block.rsp[2], s.block.rsp[3], s.block.rsp[4],
        s.block.rsp[5], s.block.rsp[6]] 7 = s.block.rsp[8] ++ s.block.rsp[7] →
      exec (.parse sid) s =
        .next { s with
          block := { s.block with
            value :=
              (s.block.rsp[3] ++ s.block.rsp[4] ++ (s.block.rsp[5] ++ s.block.rsp[6]) : Word32)
            status := (s.block.status &&& 0b11111000#8) ||| 0b00010000#8 } })) ∧
  (∀ w : Word32, field w 28 4 = 0x5#4 → (field w 24 4 ≠ 0#4 ∨ field w 0 16 ≠ 0#16) →
    ∃ why, decode w = .illegal why)

/-- Every value, a NaN pattern included, comes back bit for bit from the response frame that R71 lays
out for it, for every slave identifier (R123, R126). -/
def Obligations.ResponseOfValueParsesBack : Prop :=
  ∀ (nan : Word32) (sid d0 d1 d2 d3 : Byte),
    let c := crc16 [sid, 0x04#8, 0x04#8, d0, d1, d2, d3] 7
    parseResponse nan #v[sid, 0x04#8, 0x04#8, d0, d1, d2, d3, loByte c, hiByte c] sid =
      (0#3, d0 ++ d1 ++ (d2 ++ d3))

/-- One corrupted data byte of a valid response is a CRC_ERROR, never a value, however many of its
bits changed (R125, R126; a consequence of R100). -/
def Obligations.OneCorruptedDataByteIsCaught : Prop :=
  ∀ (nan : Word32) (r : Vector Byte 9) (sid : Byte) (k : Fin 4) (x : Byte),
    (parseResponse nan r sid).1 = verdictOk → x ≠ r[3 + k.val] →
    parseResponse nan (r.set (3 + k.val) x (by omega)) sid = (verdictCrcError, nan)

/-- R131, R129: any frame whose byte 1 is not 0x04 is WRONG_HEADER, whatever its CRC. -/
def Obligations.OtherFunctionCodesAreWrongHeader : Prop :=
  ∀ (sid : Byte) (s : State), s.block.rsp[1] ≠ 0x04#8 →
    ∃ t, exec (.parse sid) s = .next t ∧ verdict t.block.status = 2#3 ∧
      t.block.value = s.params.nanSentinel

/-- PARSE's verdict and value depend on nothing but the frame, the operand and the sentinel
(R127, R20: no slave identifier is held between commands). -/
def Obligations.ParseReadsOnlyTheFrame : Prop :=
  ∀ (sid : Byte) (s t s' t' : State),
    s.block.rsp = t.block.rsp → s.params.nanSentinel = t.params.nanSentinel →
    exec (.parse sid) s = .next s' → exec (.parse sid) t = .next t' →
    verdict s'.block.status = verdict t'.block.status ∧ s'.block.value = t'.block.value

/-- R68: CRC_BUF leaves the CRC of its operands in `CRC`; DECODE loads the frame and parses it, from
any state. -/
def Obligations.PseudoInstructionsDoWhatTheyName : Prop :=
  (∀ (bs : List Byte) (s : State),
    runInstrs (Asm.crcBuf bs) s =
      .next { s with block := { s.block with crc := crc16 bs bs.length } }) ∧
  (∀ (sid : Byte) (r : Vector Byte 9) (s : State),
    runInstrs (Asm.decodeFrame sid r) s =
      .next { s with
        block := { s.block with
          rsp := r
          value := (parseResponse s.params.nanSentinel r sid).2
          status := setVerdict (parseResponse s.params.nanSentinel r sid).1 s.block.status } })

/-! ### Frames and whole-machine rules -/

/-- The "written by" column of R20: what each command leaves unchanged. Every command leaves the
host, the channel, the parameters and the inputs unchanged. -/
def Obligations.CommandsLeaveTheRestUnchanged : Prop :=
  ∀ (i : Instr) (s t : State), exec i s = .next t →
    (t.params = s.params ∧ t.engine = s.engine ∧ t.chan = s.chan ∧ t.inputs = s.inputs ∧
      t.reply = s.reply) ∧
    ((i ≠ .crcInit ∧ ∀ d, i ≠ .crcByte d) → t.block.crc = s.block.crc) ∧
    ((∀ sid reg, i ≠ .buildReq sid reg) → t.block.req = s.block.req ∧
      reqv t.block.status = reqv s.block.status) ∧
    ((∀ idx d, i ≠ .rspLoad idx d) → t.block.rsp = s.block.rsp ∧
      ill t.block.status = ill s.block.status) ∧
    (∀ idx d, i = .rspLoad idx d → ∀ j : Fin 9, j.val ≠ idx.toNat →
      t.block.rsp[j] = s.block.rsp[j]) ∧
    ((∀ sid, i ≠ .parse sid) → t.block.value = s.block.value ∧
      verdict t.block.status = verdict s.block.status ∧
      valid t.block.status = valid s.block.status) ∧
    (i.wellFormed = true → ill t.block.status = ill s.block.status) ∧
    t.block.status.getLsbD 3 = s.block.status.getLsbD 3 ∧
    t.block.status.getLsbD 7 = s.block.status.getLsbD 7

/-- R47: every command but CRC_BYTE is idempotent; CRC_BYTE is not. -/
def Obligations.CommandsAreIdempotentButCrcByte : Prop :=
  (∀ (i : Instr) (s t : State), (∀ d, i ≠ .crcByte d) → exec i s = .next t →
    exec i t = .next t) ∧
  ∃ (d : Byte) (s t : State), exec (.crcByte d) s = .next t ∧ exec (.crcByte d) t ≠ .next t

/-- A step takes the next input; a client's command word, when no transaction is in flight, runs the
command it decodes to (R30, R31, R48). The second part is the model's choice (log entry 5, DESIGN
CHOICE): `withFetchWord` places a table row's word there from any state, and drops a transaction in
flight to Idle. That the inputs ride in the state is that entry's choice too. -/
def Obligations.StepRunsTheDecodedCommand : Prop :=
  (∀ (s : State) (w : Word32) (rest : List Input) (i : Instr),
    s.inputs = .command w :: rest → s.engine.inFlight = false → decode w = .command i →
    step s = exec i { s with inputs := rest }) ∧
  (∀ (s : State) (nbits n : Nat) (i : Instr), decode (tableWord nbits n) = .command i →
    (s.engine.inFlight = false → step (s.withFetchWord nbits n) = exec i s) ∧
    (s.engine.inFlight = true →
      step (s.withFetchWord nbits n) =
        exec i { s with engine := { s.engine with phase := .idle } }))

/-- R160: an illegal word sets `STATUS.ILL` and changes nothing else. -/
def Obligations.IllegalWordOnlySetsIll : Prop :=
  ∀ (s : State) (w : Word32) (rest : List Input) (why : IllegalReason),
    s.inputs = .command w :: rest → s.engine.inFlight = false → decode w = .illegal why →
    step s =
      .next { s with
        inputs := rest
        block := { s.block with status := s.block.status ||| 0b01000000#8 } }

/-- R163: after an illegal word the next command executes normally. -/
def Obligations.CommandAfterIllegalWordRuns : Prop :=
  ∀ (s : State) (w v : Word32) (rest : List Input) (why : IllegalReason) (i : Instr),
    s.inputs = .command w :: .command v :: rest → s.engine.inFlight = false →
    decode w = .illegal why → decode v = .command i →
    run 2 s =
      exec i { s with
        inputs := rest
        block := { s.block with status := s.block.status ||| 0b01000000#8 } }

/-- R200: the reset event sets every element of the block at once, and no other step clears `ILL`,
`VALID` or `REQV`. -/
def Obligations.OnlyResetClearsTheFlags : Prop :=
  (∀ (s : State) (rest : List Input), s.inputs = .reset :: rest →
    step s =
      .next { s with
        inputs := rest
        block :=
          { crc := 0xFFFF#16
            req := #v[0, 0, 0, 0, 0, 0, 0, 0]
            rsp := #v[0, 0, 0, 0, 0, 0, 0, 0, 0]
            value := s.params.nanSentinel
            status := 0x00#8 } }) ∧
  (∀ s t : State, step s = .next t → (∀ rest, s.inputs ≠ .reset :: rest) →
    (ill s.block.status = true → ill t.block.status = true) ∧
    (valid s.block.status = true → valid t.block.status = true) ∧
    (reqv s.block.status = true → reqv t.block.status = true))

/-- R29 with R175: in a run `ILL` is set only by a client's illegal word; the Transaction Engine
issues none. -/
def Obligations.OnlyIllegalWordsSetIll : Prop :=
  ∀ s t : State, s.Ok → step s = .next t → ill t.block.status = true →
    ill s.block.status = true ∨
      ∃ w rest why, s.inputs = .command w :: rest ∧ decode w = .illegal why

/-- R33: the block right after reset. -/
def Obligations.ResetGivesTheBlockItsValues : Prop :=
  State.reset.block.crc = 0xFFFF#16 ∧
  (∀ i : Fin 8, State.reset.block.req[i] = 0x00#8) ∧
  (∀ i : Fin 9, State.reset.block.rsp[i] = 0x00#8) ∧
  State.reset.block.value = State.reset.params.nanSentinel ∧
  State.reset.block.status = 0x00#8 ∧
  verdict State.reset.block.status = 0#3 ∧ valid State.reset.block.status = false ∧
  reqv State.reset.block.status = false ∧ ill State.reset.block.status = false

/-- R172: the host state as it is created; the default timeouts are OPEN within [20, 5000]. -/
def Obligations.HostStartsIdle : Prop :=
  State.reset.engine.errorCode = .noError ∧ State.reset.engine.successCount = 0#32 ∧
  State.reset.engine.errorCount = 0#32 ∧ State.reset.engine.dir = .rx ∧
  State.reset.engine.phase = .idle ∧
  (20 ≤ State.reset.engine.turnaroundMs.toNat ∧ State.reset.engine.turnaroundMs.toNat ≤ 5000) ∧
  (20 ≤ State.reset.engine.timeoutMs.toNat ∧ State.reset.engine.timeoutMs.toNat ≤ 5000)

/-- R32: a read returns the element as the last completed command left it, and has no side effect. -/
def Obligations.ReadPortsHaveNoSideEffect : Prop :=
  ∀ (s : State) (p : Port) (rest : List Input), s.inputs = .readPort p :: rest →
    step s =
      .next { s with
        inputs := rest
        reply := some (match p with
          | .crc => .word16 s.block.crc
          | .req i => .byte s.block.req[i]
          | .rsp i => .byte s.block.rsp[i]
          | .value => .word32 s.block.value
          | .status => .byte s.block.status) }

/-- R25: in a run `STATUS` reads as its fields at their places with zeros in bits 3 and 7. -/
def Obligations.StatusReadsAsItsFields : Prop :=
  ∀ (nan : Word32) (b : Block), b.Ok nan →
    b.status =
      (0#1 ++ BitVec.ofBool (ill b.status) ++ BitVec.ofBool (reqv b.status) ++
        BitVec.ofBool (valid b.status) ++ 0#1 ++ verdict b.status : BitVec 8)

/-- The invariant holds right after reset. -/
def Obligations.InvariantHoldsAtReset : Prop := State.reset.Ok

/-- Every step keeps the invariant (R24 to R28, R172 to R180). -/
def Obligations.StepKeepsTheInvariant : Prop :=
  ∀ s t : State, s.Ok → step s = .next t → t.Ok

/-- No run faults (R185: nothing is fatal; R26: the reserved verdicts are never written). The one fault
there is, on a reserved verdict, is the model's choice (log entry 3, DESIGN CHOICE). -/
def Obligations.InvariantStatesNeverFault : Prop :=
  ∀ (s : State) (r : Fault), s.Ok → step s ≠ .fault r

/-- The machine has no meaning exactly for two interleaved command streams and for two transactions in
flight. R170 gives such runs no meaning and 93_implementation_defined.md says to refuse them; which
inputs are refused, over what span, and that resets, port reads, setters and getters are not, is the
model's reading (log entry 4, DEDUCED). -/
def Obligations.OnlyInterleavingIsRefused : Prop :=
  ∀ (s : State) (r : Refusal), step s = .refused r ↔
    s.engine.inFlight = true ∧
      ((r = .interleavedStreams ∧ ∃ w rest, s.inputs = .command w :: rest) ∨
       (r = .concurrentTransaction ∧
         ∃ reg sid rest, s.inputs = .call (.readValue reg sid) :: rest))

/-- The parameters of R7 never change. -/
def Obligations.ParametersNeverChange : Prop :=
  ∀ s t : State, step s = .next t → t.params = s.params

/-- The block changes only by a client's command word, by the reset event, or by a step of the
Transaction Engine that issues a command (R20, R31, R47, R173, R175). -/
def Obligations.BlockChangesOnlyByCommandsAndReset : Prop :=
  ∀ s t : State, step s = .next t → t.block ≠ s.block →
    ∃ i rest, s.inputs = i :: rest ∧
      ((∃ w, i = .command w) ∨ i = .reset ∨
       (∃ now, i = .engine now ∧
         (s.engine.phase = .transmitting .build ∨
          ∃ w ws, s.engine.phase = .validating (.issue (w :: ws)))))

/-! ### The host's reference behaviour (60_exceptions.md Part 2) -/

/-- R171: the numbers of the Error Codes. -/
def Obligations.ErrorCodesAreNumbered : Prop :=
  errorCodeOf 0 = some .noError ∧ errorCodeOf 1 = some .crcError ∧
  errorCodeOf 2 = some .wrongHeaderBytes ∧ errorCodeOf 3 = some .insufficientBytes ∧
  errorCodeOf 4 = some .timeout ∧ ∀ e, errorCodeOf (errorNumber e) = some e

/-- R180: the timing setters clamp to [20, 5000] and never reject. -/
def Obligations.SettersClamp : Prop :=
  ∀ (s : State) (v : Word16) (rest : List Input),
    (s.inputs = .call (.setTurnaroundMs v) :: rest →
      step s =
        .next { s with
          inputs := rest
          reply := some .unit
          engine := { s.engine with
            turnaroundMs := BitVec.ofNat 16 (min (max v.toNat 20) 5000) } }) ∧
    (s.inputs = .call (.setTimeoutMs v) :: rest →
      step s =
        .next { s with
          inputs := rest
          reply := some .unit
          engine := { s.engine with
            timeoutMs := BitVec.ofNat 16 (min (max v.toNat 20) 5000) } })

/-- R181, R182: a get returns the value before the clear; a clear sets the initial value. -/
def Obligations.GettersReturnTheValueBeforeTheClear : Prop :=
  ∀ (s : State) (clear : Bool) (rest : List Input),
    (s.inputs = .call .getTurnaroundMs :: rest →
      step s =
        .next { s with inputs := rest, reply := some (.word16 s.engine.turnaroundMs) }) ∧
    (s.inputs = .call .getTimeoutMs :: rest →
      step s = .next { s with inputs := rest, reply := some (.word16 s.engine.timeoutMs) }) ∧
    (s.inputs = .call (.getErrorCode clear) :: rest →
      step s =
        .next { s with
          inputs := rest
          reply := some (.code s.engine.errorCode)
          engine := { s.engine with
            errorCode := if clear = true then .noError else s.engine.errorCode } }) ∧
    (s.inputs = .call (.getErrorCount clear) :: rest →
      step s =
        .next { s with
          inputs := rest
          reply := some (.word32 s.engine.errorCount)
          engine := { s.engine with
            errorCount := if clear = true then 0 else s.engine.errorCount } }) ∧
    (s.inputs = .call (.getSuccessCount clear) :: rest →
      step s =
        .next { s with
          inputs := rest
          reply := some (.word32 s.engine.successCount)
          engine := { s.engine with
            successCount := if clear = true then 0 else s.engine.successCount } }) ∧
    (s.inputs = .call .clearErrorCode :: rest →
      step s =
        .next { s with
          inputs := rest
          reply := some .unit
          engine := { s.engine with errorCode := .noError } }) ∧
    (s.inputs = .call .clearErrorCount :: rest →
      step s =
        .next { s with
          inputs := rest
          reply := some .unit
          engine := { s.engine with errorCount := 0 } }) ∧
    (s.inputs = .call .clearSuccessCount :: rest →
      step s =
        .next { s with
          inputs := rest
          reply := some .unit
          engine := { s.engine with successCount := 0 } })

/-- R177, R183: each exchange that ends moves exactly one counter by exactly 1, and nothing else
changes a counter but its clear. -/
def Obligations.ExactlyOneCounterMovesPerExchange : Prop :=
  ∀ s t : State, step s = .next t →
    (((∃ d, s.engine.phase = .draining d) ∧ t.engine.phase = .done) →
      (t.engine.errorCode = .noError ∧ t.engine.successCount = s.engine.successCount + 1 ∧
        t.engine.errorCount = s.engine.errorCount) ∨
      (t.engine.errorCode ≠ .noError ∧ t.engine.successCount = s.engine.successCount ∧
        t.engine.errorCount = s.engine.errorCount + 1)) ∧
    (¬((∃ d, s.engine.phase = .draining d) ∧ t.engine.phase = .done) →
      (t.engine.successCount = s.engine.successCount ∨
        (t.engine.successCount = 0 ∧ ∃ rest, s.inputs = .call (.getSuccessCount true) :: rest ∨
          s.inputs = .call .clearSuccessCount :: rest)) ∧
      (t.engine.errorCount = s.engine.errorCount ∨
        (t.engine.errorCount = 0 ∧ ∃ rest, s.inputs = .call (.getErrorCount true) :: rest ∨
          s.inputs = .call .clearErrorCount :: rest)))

/-- R174: the poll records `t0` when it starts, and each iteration ends it by nine bytes, ends it by
time, or leaves it as it is. That time is the reading a step carries is the model's form of the draw
(log entry 7, DESIGN CHOICE), and that one step returns the line to receive and records `t0` is its
grain (log entry 9, DESIGN CHOICE). -/
def Obligations.PollEndsByNineBytesOrByTime : Prop :=
  (∀ (s : State) (now : Nat) (rest : List Input),
    s.inputs = .engine now :: rest → s.engine.phase = .transmitting .waitSent →
    s.chan.tx = [] →
    ∃ t, step s = .next t ∧ t.engine.phase = .awaitingResponse ∧ t.engine.txn.t0 = now ∧
      t.chan = s.chan ∧ t.block = s.block) ∧
  ∀ (s : State) (now : Nat) (rest : List Input),
    s.inputs = .engine now :: rest → s.engine.phase = .awaitingResponse →
    (9 ≤ s.chan.rx.length →
      step s =
        .next { s with inputs := rest, engine := { s.engine with phase := .validating .read } }) ∧
    (s.chan.rx.length < 9 → s.engine.turnaroundMs.toNat < now - s.engine.txn.t0 →
      step s =
        .next { s with
          inputs := rest
          engine := { s.engine with
            phase := .draining .start
            txn := { s.engine.txn with err := .timeout, value := s.params.nanSentinel } } }) ∧
    (s.chan.rx.length < 9 → now - s.engine.txn.t0 ≤ s.engine.turnaroundMs.toNat →
      step s = .next { s with inputs := rest })

/-- R174, R208: the poll never gives up before more than `turnaroundMs` have passed since it
started, nor with nine bytes available. That time is the reading a step carries is the model's form of
the draw (log entry 7, DESIGN CHOICE). -/
def Obligations.NoTimeoutBeforeTurnaround : Prop :=
  ∀ s t : State, step s = .next t → s.engine.phase = .awaitingResponse →
    (∃ d, t.engine.phase = .draining d) →
    ∃ now rest, s.inputs = .engine now :: rest ∧
      s.engine.turnaroundMs.toNat < now - s.engine.txn.t0 ∧ s.chan.rx.length < 9

/-- R175: fewer than 9 bytes obtained is InsufficientBytes and the sentinel. That the read is a step of
its own is the model's grain (log entry 9, DESIGN CHOICE). -/
def Obligations.FewerThanNineBytesAreInsufficient : Prop :=
  ∀ (s : State) (now : Nat) (rest : List Input),
    s.inputs = .engine now :: rest → s.engine.phase = .validating .read →
    s.chan.rx.length < 9 →
    ∃ t, step s = .next t ∧ t.engine.phase = .draining .start ∧
      t.engine.txn.err = .insufficientBytes ∧ t.engine.txn.value = s.params.nanSentinel ∧
      t.block = s.block

/-- R173: from the call of `readValue` to the poll. The unread bytes are discarded, the request is
built in the block, and exactly its 8 bytes go out on the line in order; the direction is receive
again before the poll starts. That this is 15 steps is the model's grain (log entry 9, DESIGN CHOICE),
and the record `line` of the bytes sent is the model's own (log entry 10, DESIGN CHOICE). -/
def Obligations.RequestIsSentWhole : Prop :=
  ∀ (s : State) (reg : Word16) (sid : Byte) (n0 n1 n2 n3 n4 n5 : Nat) (rest : List Input),
    s.engine.inFlight = false → s.chan.tx = [] → s.params.tSettle ≤ n3 - n2 →
    s.inputs =
      [.call (.readValue reg (some sid)), .engine n0, .engine n1, .engine n2, .engine n3,
        .engine n4] ++ List.replicate 8 .sent ++ [.engine n5] ++ rest →
    ∃ t, run 15 s = .next t ∧ t.inputs = rest ∧ t.engine.phase = .awaitingResponse ∧
      t.engine.txn.t0 = n5 ∧ t.engine.txn.sid = sid ∧
      t.engine.dir = (if s.params.hasDirLine = true then .rx else s.engine.dir) ∧
      t.chan = { rx := [], tx := [], line := (buildRequest sid reg).toList } ∧
      t.block = { s.block with
        req := buildRequest sid reg, status := s.block.status ||| 0b00100000#8 }

/-- R174 to R177 with R127: a response of 9 bytes and nothing more is polled, read, loaded, parsed
and answered: `readValue` returns PARSE's value, the Error Code is the verdict's, and one counter
moves. That this is 14 steps of the Engine is the model's grain (log entry 9, DESIGN CHOICE). -/
def Obligations.ResponseIsParsedAndReturned : Prop :=
  ∀ (s : State) (b : Vector Byte 9) (ns : List Nat) (rest : List Input),
    s.engine.phase = .awaitingResponse → s.chan.rx = b.toList → ns.length = 14 →
    s.inputs = ns.map .engine ++ rest →
    let p := parseResponse s.params.nanSentinel b s.engine.txn.sid
    ∃ t, run 14 s = .next t ∧ t.inputs = rest ∧ t.engine.phase = .done ∧
      t.reply = some (.word32 p.2) ∧ errorCodeOf p.1 = some t.engine.errorCode ∧
      t.engine.successCount =
        (if p.1 = 0#3 then s.engine.successCount + 1 else s.engine.successCount) ∧
      t.engine.errorCount =
        (if p.1 = 0#3 then s.engine.errorCount else s.engine.errorCount + 1) ∧
      t.block = { s.block with
        rsp := b, value := p.2, status := setVerdict p.1 s.block.status }

/-- R174, R176, R177 (95_test_vectors.md H2): a link that stays silent past the turnaround timeout
gives Timeout and the sentinel, and touches neither the block nor the success counter; the drain of an
empty channel ends at once (R176). That this is two steps of the Engine is the model's grain (log
entry 9, DESIGN CHOICE), and that time is the readings they carry is its form of the draw (log entry 7,
DESIGN CHOICE). -/
def Obligations.SilentLinkTimesOut : Prop :=
  ∀ (s : State) (n1 n2 : Nat) (rest : List Input),
    s.engine.phase = .awaitingResponse → s.chan.rx = [] →
    s.engine.turnaroundMs.toNat < n1 - s.engine.txn.t0 →
    s.inputs = .engine n1 :: .engine n2 :: rest →
    ∃ t, run 2 s = .next t ∧ t.engine.phase = .done ∧
      t.reply = some (.word32 s.params.nanSentinel) ∧ t.engine.errorCode = .timeout ∧
      t.engine.errorCount = s.engine.errorCount + 1 ∧
      t.engine.successCount = s.engine.successCount ∧ t.block = s.block

/-- R176: with bytes present when the drain begins both outcomes are admitted: the error recorded so
far, or the override to Timeout with the value left as it is (90_conflicts.md C3). With none, no
override. That the outcome follows the readings and arrivals is the model's form of the draw (log entry
6, DESIGN CHOICE). -/
def Obligations.DrainAdmitsBothOutcomes : Prop :=
  (∀ (s : State) (rest : List Input), s.Ok → s.engine.phase = .draining .start →
    s.chan.rx ≠ [] →
    (∃ (ns : List Nat) (t : State),
      run ns.length { s with inputs := ns.map .engine ++ rest } = .next t ∧
      t.engine.phase = .done ∧ t.engine.errorCode = s.engine.txn.err ∧
      t.reply = some (.word32 s.engine.txn.value)) ∧
    (∃ (ns : List Nat) (t : State),
      run ns.length { s with inputs := ns.map .engine ++ rest } = .next t ∧
      t.engine.phase = .done ∧ t.engine.errorCode = .timeout ∧
      t.reply = some (.word32 s.engine.txn.value))) ∧
  (∀ (s : State) (now : Nat) (rest : List Input), s.engine.phase = .draining .start →
    s.chan.rx = [] → s.inputs = .engine now :: rest →
    ∃ t, step s = .next t ∧ t.engine.phase = .done ∧ t.engine.errorCode = s.engine.txn.err ∧
      t.reply = some (.word32 s.engine.txn.value))

/-- R178: the direction line is in receive whenever no transaction is in flight, so before
`readValue` returns, on every exit path. -/
def Obligations.DirectionIsReceiveOnReturn : Prop :=
  ∀ s t : State, s.Ok → step s = .next t → t.engine.inFlight = false → t.engine.dir = .rx

/-- R184: `readValue` returns the sentinel on any failure, except after a drain override of a success,
which returns the value already decoded (90_conflicts.md C3). That an override is a byte present at the
drain's last step is the model's form of the draw (log entry 6, DESIGN CHOICE). -/
def Obligations.FailureReturnsTheSentinel : Prop :=
  ∀ (s t : State) (d : DrainStep), s.Ok → step s = .next t → s.engine.phase = .draining d →
    t.engine.phase = .done →
    ∃ v, t.reply = some (.word32 v) ∧
      (t.engine.errorCode = .noError ∨ v = s.params.nanSentinel ∨
        (t.engine.errorCode = .timeout ∧ d = .collecting ∧ s.chan.rx ≠ [] ∧
          s.engine.txn.err = .noError ∧ v = s.engine.txn.value))

/-- R184: a call of `readValue` that leaves the slave identifier out uses 1. That the call is a step of
its own, before the pre-flush, is the model's grain (log entry 9, DESIGN CHOICE). -/
def Obligations.DefaultSlaveIdentifierIsOne : Prop :=
  ∀ (s : State) (reg : Word16) (rest : List Input), s.engine.inFlight = false →
    s.inputs = .call (.readValue reg none) :: rest →
    ∃ t, step s = .next t ∧ t.engine.inFlight = true ∧ t.engine.txn.sid = 1#8 ∧
      t.engine.txn.reg = reg ∧ t.block = s.block ∧ t.chan = s.chan

/-- The model's reading of R35 and R167, which say that block instances share nothing: a list of whole
link states, the host and the channel of each included, is a host of several links, and a step of one
leaves every other as it is (log entry 16, DEDUCED, unsafe for links on one wire). -/
def Obligations.LinksShareNothing : Prop :=
  ∀ (k : Nat) (links links' : List State), stepLink k links = .next links' →
    links'.length = links.length ∧
    (∀ j, j ≠ k → links'[j]? = links[j]?) ∧
    ∀ s, links[k]? = some s → ∃ t, step s = .next t ∧ links'[k]? = some t

/-- The model's reading of R205, whose loss the spec itself marks as derived from R174: every byte that
arrives while the line is in transmit direction is lost (log entry 11, DEDUCED, unsafe). That a byte
arriving in receive direction joins a queue of unread bytes is the model's channel (log entry 10,
DESIGN CHOICE). -/
def Obligations.ArrivalInTransmitDirectionIsLost : Prop :=
  ∀ (s : State) (b : Byte) (rest : List Input), s.inputs = .arrive b :: rest →
    (s.engine.dir = .tx → step s = .next { s with inputs := rest }) ∧
    (s.engine.dir = .rx →
      step s =
        .next { s with inputs := rest, chan := { s.chan with rx := s.chan.rx ++ [b] } })
end

