-- ==== Sys2Proof/Laws/Asm.lean ====
section
/-! SUPPORT. Exactly which numbers the assembler takes as each operand (30_encoding.md rule R67), and
what a nine-byte frame expands to (rule R68). -/

namespace Sys2Proof.Asm

/-- The numbers taken as a byte are the values of bytes. -/
theorem byteOperand_eq_some (n : Nat) (b : Byte) : byteOperand n = some b ↔ n = b.toNat := by
  unfold byteOperand
  split
  · rw [Option.some.injEq]; constructor <;> intro h
    · subst h; simp; omega
    · subst h; simp
  · simp; have := b.isLt; omega

/-- The numbers taken as a word16 are the values of word16s. -/
theorem word16Operand_eq_some (n : Nat) (v : Word16) : word16Operand n = some v ↔ n = v.toNat := by
  unfold word16Operand
  split
  · rw [Option.some.injEq]; constructor <;> intro h
    · subst h; simp; omega
    · subst h; simp
  · simp; have := v.isLt; omega

/-- The numbers taken as a byte position are 0 to 8. -/
theorem indexOperand_eq_some (n : Nat) (i : BitVec 4) :
    indexOperand n = some i ↔ n = i.toNat ∧ i.toNat ≤ 8 := by
  unfold indexOperand
  split
  · rw [Option.some.injEq]; constructor <;> intro h
    · subst h; simp; omega
    · rw [h.1]; simp
  · simp; omega

/-- The number lists taken as bytes are the values of byte lists. -/
theorem mapM_byteOperand_eq_some (ns : List Nat) (bs : List Byte) :
    ns.mapM byteOperand = some bs ↔ ns = bs.map BitVec.toNat := by
  induction ns generalizing bs with
  | nil => cases bs <;> simp
  | cons n ns ih =>
    cases bs with
    | nil => simp [List.mapM_cons, Option.bind_eq_some_iff]
    | cons b bs => simp [List.mapM_cons, Option.bind_eq_some_iff, byteOperand_eq_some, ih]

/-- The number lists taken as a frame are the values of nine bytes. -/
theorem frameOperands_eq_some (ns : List Nat) (r : Vector Byte 9) :
    frameOperands ns = some r ↔ ns = r.toList.map BitVec.toNat := by
  rw [← mapM_byteOperand_eq_some]
  unfold frameOperands
  split
  next a b c d e f g h i hm =>
    rw [hm, Option.some.injEq, Option.some.injEq]
    constructor
    · rintro rfl; rfl
    · intro hr; exact Vector.toList_inj.1 hr.symm |>.symm
  next hm =>
    constructor
    · intro h; cases h
    · intro h
      obtain ⟨⟨l⟩, hl⟩ := r
      match l, hl with
      | [a, b, c, d, e, f, g, h', i], _ => exact absurd h (hm a b c d e f g h' i)

/-- `LOAD_FRAME` written out. -/
theorem loadFrame_eq (r : Vector Byte 9) :
    loadFrame r =
      [.rspLoad 0 r[0], .rspLoad 1 r[1], .rspLoad 2 r[2], .rspLoad 3 r[3], .rspLoad 4 r[4],
        .rspLoad 5 r[5], .rspLoad 6 r[6], .rspLoad 7 r[7], .rspLoad 8 r[8]] := by
  obtain ⟨⟨l⟩, hl⟩ := r
  match l, hl with
  | [_, _, _, _, _, _, _, _, _], _ => rfl

/-- `DECODE` written out. -/
theorem decodeFrame_eq (sid : Byte) (r : Vector Byte 9) :
    decodeFrame sid r =
      [.rspLoad 0 r[0], .rspLoad 1 r[1], .rspLoad 2 r[2], .rspLoad 3 r[3], .rspLoad 4 r[4],
        .rspLoad 5 r[5], .rspLoad 6 r[6], .rspLoad 7 r[7], .rspLoad 8 r[8], .parse sid] := by
  rw [decodeFrame, loadFrame_eq]; rfl

end Sys2Proof.Asm
end

