-- ==== Sys2Proof/Laws/Decode.lean ====
section
/-! SUPPORT. Fields and concatenations of command words as numbers, and the masks of the opcode map
as fields. -/

namespace Sys2Proof

theorem toNat_append_eq {m n : Nat} (a : BitVec m) (b : BitVec n) :
    (a ++ b).toNat = a.toNat * 2 ^ n + b.toNat := by
  rw [BitVec.toNat_append, ← Nat.shiftLeft_add_eq_or_of_lt b.isLt, Nat.shiftLeft_eq]

theorem field_toNat (w : Word32) (lo len : Nat) :
    (field w lo len).toNat = w.toNat / 2 ^ lo % 2 ^ len := by
  simp [field, Nat.shiftRight_eq_div_pow]

theorem field_eq_iff (w : Word32) (lo len : Nat) (v : BitVec len) :
    field w lo len = v ↔ w.toNat / 2 ^ lo % 2 ^ len = v.toNat := by
  rw [← field_toNat]
  exact ⟨congrArg BitVec.toNat, BitVec.eq_of_toNat_eq⟩

/-! The command words of R62's formats as numbers. -/

theorem encode_crcInit_toNat : (encode .crcInit).toNat = 0x10000000 := rfl

theorem encode_crcByte_toNat (d : Byte) :
    (encode (.crcByte d)).toNat = 0x20000000 + d.toNat := by
  simp only [encode, toNat_append_eq, BitVec.toNat_ofNat]; omega

theorem encode_buildReq_toNat (sid : Byte) (reg : Word16) :
    (encode (.buildReq sid reg)).toNat = 0x30000000 + sid.toNat * 2 ^ 16 + reg.toNat := by
  simp only [encode, toNat_append_eq, BitVec.toNat_ofNat]; omega

theorem encode_rspLoad_toNat (idx : BitVec 4) (d : Byte) :
    (encode (.rspLoad idx d)).toNat = 0x40000000 + idx.toNat * 2 ^ 24 + d.toNat := by
  simp only [encode, toNat_append_eq, BitVec.toNat_ofNat]; omega

theorem encode_parse_toNat (sid : Byte) :
    (encode (.parse sid)).toNat = 0x50000000 + sid.toNat * 2 ^ 16 := by
  simp only [encode, toNat_append_eq, BitVec.toNat_ofNat]; omega

/-! The rows' masks (R63). -/

theorem eq_iff_bits {n : Nat} (x y : BitVec n) :
    x = y ↔ ∀ i, i < n → x.getLsbD i = y.getLsbD i :=
  ⟨fun h i _ => by rw [h], fun h => BitVec.eq_of_getLsbD_eq h⟩

theorem mask_crcByte (w : Word32) :
    w &&& 0xFFFFFF00#32 = 0x20000000#32 ↔ field w 28 4 = 0x2#4 ∧ field w 8 20 = 0#20 := by
  unfold field
  simp only [eq_iff_bits, Nat.forall_lt_succ_right, BitVec.getLsbD_and,
    BitVec.getLsbD_extractLsb']
  simp (decide := true)
  tauto

theorem mask_buildReq (w : Word32) :
    w &&& 0xFF000000#32 = 0x30000000#32 ↔ field w 28 4 = 0x3#4 ∧ field w 24 4 = 0#4 := by
  unfold field
  simp only [eq_iff_bits, Nat.forall_lt_succ_right, BitVec.getLsbD_and,
    BitVec.getLsbD_extractLsb']
  simp (decide := true)
  tauto

theorem mask_rspLoad (w : Word32) :
    w &&& 0xF0FFFF00#32 = 0x40000000#32 ↔ field w 28 4 = 0x4#4 ∧ field w 8 16 = 0#16 := by
  unfold field
  simp only [eq_iff_bits, Nat.forall_lt_succ_right, BitVec.getLsbD_and,
    BitVec.getLsbD_extractLsb']
  simp (decide := true)
  tauto

theorem mask_parse (w : Word32) :
    w &&& 0xFF00FFFF#32 = 0x50000000#32 ↔
      field w 28 4 = 0x5#4 ∧ field w 24 4 = 0#4 ∧ field w 0 16 = 0#16 := by
  unfold field
  simp only [eq_iff_bits, Nat.forall_lt_succ_right, BitVec.getLsbD_and,
    BitVec.getLsbD_extractLsb']
  simp (decide := true)
  tauto

end Sys2Proof
end

