-- ==== Sys2Proof/Laws/State.lean ====
section
/-! SUPPORT. For each update of the state, one lemma per field: what the field holds afterwards. -/

namespace Sys2Proof.Machine

/-! `setCrc` -/

@[simp] theorem setCrc_params (c : Word16) (s : State) :
    (setCrc c s).params = s.params := rfl

@[simp] theorem setCrc_block_crc (c : Word16) (s : State) :
    (setCrc c s).block.crc = c := rfl

@[simp] theorem setCrc_block_req (c : Word16) (s : State) :
    (setCrc c s).block.req = s.block.req := rfl

@[simp] theorem setCrc_block_rsp (c : Word16) (s : State) :
    (setCrc c s).block.rsp = s.block.rsp := rfl

@[simp] theorem setCrc_block_value (c : Word16) (s : State) :
    (setCrc c s).block.value = s.block.value := rfl

@[simp] theorem setCrc_block_status (c : Word16) (s : State) :
    (setCrc c s).block.status = s.block.status := rfl

@[simp] theorem setCrc_engine (c : Word16) (s : State) :
    (setCrc c s).engine = s.engine := rfl

@[simp] theorem setCrc_chan (c : Word16) (s : State) :
    (setCrc c s).chan = s.chan := rfl

@[simp] theorem setCrc_inputs (c : Word16) (s : State) :
    (setCrc c s).inputs = s.inputs := rfl

@[simp] theorem setCrc_reply (c : Word16) (s : State) :
    (setCrc c s).reply = s.reply := rfl

/-! `setRequest` -/

@[simp] theorem setRequest_params (f : Vector Byte 8) (s : State) :
    (setRequest f s).params = s.params := rfl

@[simp] theorem setRequest_block_crc (f : Vector Byte 8) (s : State) :
    (setRequest f s).block.crc = s.block.crc := rfl

@[simp] theorem setRequest_block_req (f : Vector Byte 8) (s : State) :
    (setRequest f s).block.req = f := rfl

@[simp] theorem setRequest_block_rsp (f : Vector Byte 8) (s : State) :
    (setRequest f s).block.rsp = s.block.rsp := rfl

@[simp] theorem setRequest_block_value (f : Vector Byte 8) (s : State) :
    (setRequest f s).block.value = s.block.value := rfl

@[simp] theorem setRequest_block_status (f : Vector Byte 8) (s : State) :
    (setRequest f s).block.status = setReqv s.block.status := rfl

@[simp] theorem setRequest_engine (f : Vector Byte 8) (s : State) :
    (setRequest f s).engine = s.engine := rfl

@[simp] theorem setRequest_chan (f : Vector Byte 8) (s : State) :
    (setRequest f s).chan = s.chan := rfl

@[simp] theorem setRequest_inputs (f : Vector Byte 8) (s : State) :
    (setRequest f s).inputs = s.inputs := rfl

@[simp] theorem setRequest_reply (f : Vector Byte 8) (s : State) :
    (setRequest f s).reply = s.reply := rfl

/-! `setRspByte` -/

@[simp] theorem setRspByte_params (i : Fin 9) (b : Byte) (s : State) :
    (setRspByte i b s).params = s.params := rfl

@[simp] theorem setRspByte_block_crc (i : Fin 9) (b : Byte) (s : State) :
    (setRspByte i b s).block.crc = s.block.crc := rfl

@[simp] theorem setRspByte_block_req (i : Fin 9) (b : Byte) (s : State) :
    (setRspByte i b s).block.req = s.block.req := rfl

@[simp] theorem setRspByte_block_rsp (i : Fin 9) (b : Byte) (s : State) :
    (setRspByte i b s).block.rsp = s.block.rsp.set i.val b i.isLt := rfl

@[simp] theorem setRspByte_block_value (i : Fin 9) (b : Byte) (s : State) :
    (setRspByte i b s).block.value = s.block.value := rfl

@[simp] theorem setRspByte_block_status (i : Fin 9) (b : Byte) (s : State) :
    (setRspByte i b s).block.status = s.block.status := rfl

@[simp] theorem setRspByte_engine (i : Fin 9) (b : Byte) (s : State) :
    (setRspByte i b s).engine = s.engine := rfl

@[simp] theorem setRspByte_chan (i : Fin 9) (b : Byte) (s : State) :
    (setRspByte i b s).chan = s.chan := rfl

@[simp] theorem setRspByte_inputs (i : Fin 9) (b : Byte) (s : State) :
    (setRspByte i b s).inputs = s.inputs := rfl

@[simp] theorem setRspByte_reply (i : Fin 9) (b : Byte) (s : State) :
    (setRspByte i b s).reply = s.reply := rfl

/-! `setResult` -/

@[simp] theorem setResult_params (v : BitVec 3) (x : Word32) (s : State) :
    (setResult v x s).params = s.params := rfl

@[simp] theorem setResult_block_crc (v : BitVec 3) (x : Word32) (s : State) :
    (setResult v x s).block.crc = s.block.crc := rfl

@[simp] theorem setResult_block_req (v : BitVec 3) (x : Word32) (s : State) :
    (setResult v x s).block.req = s.block.req := rfl

@[simp] theorem setResult_block_rsp (v : BitVec 3) (x : Word32) (s : State) :
    (setResult v x s).block.rsp = s.block.rsp := rfl

@[simp] theorem setResult_block_value (v : BitVec 3) (x : Word32) (s : State) :
    (setResult v x s).block.value = x := rfl

@[simp] theorem setResult_block_status (v : BitVec 3) (x : Word32) (s : State) :
    (setResult v x s).block.status = setVerdict v s.block.status := rfl

@[simp] theorem setResult_engine (v : BitVec 3) (x : Word32) (s : State) :
    (setResult v x s).engine = s.engine := rfl

@[simp] theorem setResult_chan (v : BitVec 3) (x : Word32) (s : State) :
    (setResult v x s).chan = s.chan := rfl

@[simp] theorem setResult_inputs (v : BitVec 3) (x : Word32) (s : State) :
    (setResult v x s).inputs = s.inputs := rfl

@[simp] theorem setResult_reply (v : BitVec 3) (x : Word32) (s : State) :
    (setResult v x s).reply = s.reply := rfl

/-! `raiseIllegal` -/

@[simp] theorem raiseIllegal_params (s : State) :
    (raiseIllegal s).params = s.params := rfl

@[simp] theorem raiseIllegal_block_crc (s : State) :
    (raiseIllegal s).block.crc = s.block.crc := rfl

@[simp] theorem raiseIllegal_block_req (s : State) :
    (raiseIllegal s).block.req = s.block.req := rfl

@[simp] theorem raiseIllegal_block_rsp (s : State) :
    (raiseIllegal s).block.rsp = s.block.rsp := rfl

@[simp] theorem raiseIllegal_block_value (s : State) :
    (raiseIllegal s).block.value = s.block.value := rfl

@[simp] theorem raiseIllegal_block_status (s : State) :
    (raiseIllegal s).block.status = setIll s.block.status := rfl

@[simp] theorem raiseIllegal_engine (s : State) :
    (raiseIllegal s).engine = s.engine := rfl

@[simp] theorem raiseIllegal_chan (s : State) :
    (raiseIllegal s).chan = s.chan := rfl

@[simp] theorem raiseIllegal_inputs (s : State) :
    (raiseIllegal s).inputs = s.inputs := rfl

@[simp] theorem raiseIllegal_reply (s : State) :
    (raiseIllegal s).reply = s.reply := rfl

/-! `resetBlock` -/

@[simp] theorem resetBlock_params (s : State) :
    (resetBlock s).params = s.params := rfl

@[simp] theorem resetBlock_block (s : State) :
    (resetBlock s).block = Block.reset s.params.nanSentinel := rfl

@[simp] theorem resetBlock_engine (s : State) :
    (resetBlock s).engine = s.engine := rfl

@[simp] theorem resetBlock_chan (s : State) :
    (resetBlock s).chan = s.chan := rfl

@[simp] theorem resetBlock_inputs (s : State) :
    (resetBlock s).inputs = s.inputs := rfl

@[simp] theorem resetBlock_reply (s : State) :
    (resetBlock s).reply = s.reply := rfl

/-! `goTo` -/

@[simp] theorem goTo_params (p : Phase) (s : State) :
    (goTo p s).params = s.params := rfl

@[simp] theorem goTo_block (p : Phase) (s : State) :
    (goTo p s).block = s.block := rfl

@[simp] theorem goTo_engine_errorCode (p : Phase) (s : State) :
    (goTo p s).engine.errorCode = s.engine.errorCode := rfl

@[simp] theorem goTo_engine_successCount (p : Phase) (s : State) :
    (goTo p s).engine.successCount = s.engine.successCount := rfl

@[simp] theorem goTo_engine_errorCount (p : Phase) (s : State) :
    (goTo p s).engine.errorCount = s.engine.errorCount := rfl

@[simp] theorem goTo_engine_turnaroundMs (p : Phase) (s : State) :
    (goTo p s).engine.turnaroundMs = s.engine.turnaroundMs := rfl

@[simp] theorem goTo_engine_timeoutMs (p : Phase) (s : State) :
    (goTo p s).engine.timeoutMs = s.engine.timeoutMs := rfl

@[simp] theorem goTo_engine_dir (p : Phase) (s : State) :
    (goTo p s).engine.dir = s.engine.dir := rfl

@[simp] theorem goTo_engine_phase (p : Phase) (s : State) :
    (goTo p s).engine.phase = p := rfl

@[simp] theorem goTo_engine_txn (p : Phase) (s : State) :
    (goTo p s).engine.txn = s.engine.txn := rfl

@[simp] theorem goTo_chan (p : Phase) (s : State) :
    (goTo p s).chan = s.chan := rfl

@[simp] theorem goTo_inputs (p : Phase) (s : State) :
    (goTo p s).inputs = s.inputs := rfl

@[simp] theorem goTo_reply (p : Phase) (s : State) :
    (goTo p s).reply = s.reply := rfl

/-! `startWait` -/

@[simp] theorem startWait_params (now : Nat) (s : State) :
    (startWait now s).params = s.params := rfl

@[simp] theorem startWait_block (now : Nat) (s : State) :
    (startWait now s).block = s.block := rfl

@[simp] theorem startWait_engine_errorCode (now : Nat) (s : State) :
    (startWait now s).engine.errorCode = s.engine.errorCode := rfl

@[simp] theorem startWait_engine_successCount (now : Nat) (s : State) :
    (startWait now s).engine.successCount = s.engine.successCount := rfl

@[simp] theorem startWait_engine_errorCount (now : Nat) (s : State) :
    (startWait now s).engine.errorCount = s.engine.errorCount := rfl

@[simp] theorem startWait_engine_turnaroundMs (now : Nat) (s : State) :
    (startWait now s).engine.turnaroundMs = s.engine.turnaroundMs := rfl

@[simp] theorem startWait_engine_timeoutMs (now : Nat) (s : State) :
    (startWait now s).engine.timeoutMs = s.engine.timeoutMs := rfl

@[simp] theorem startWait_engine_dir (now : Nat) (s : State) :
    (startWait now s).engine.dir = s.engine.dir := rfl

@[simp] theorem startWait_engine_phase (now : Nat) (s : State) :
    (startWait now s).engine.phase = s.engine.phase := rfl

@[simp] theorem startWait_engine_txn (now : Nat) (s : State) :
    (startWait now s).engine.txn = { s.engine.txn with t0 := now } := rfl

@[simp] theorem startWait_chan (now : Nat) (s : State) :
    (startWait now s).chan = s.chan := rfl

@[simp] theorem startWait_inputs (now : Nat) (s : State) :
    (startWait now s).inputs = s.inputs := rfl

@[simp] theorem startWait_reply (now : Nat) (s : State) :
    (startWait now s).reply = s.reply := rfl

/-! `setOutcome` -/

@[simp] theorem setOutcome_params (e : ErrorCode) (x : Word32) (s : State) :
    (setOutcome e x s).params = s.params := rfl

@[simp] theorem setOutcome_block (e : ErrorCode) (x : Word32) (s : State) :
    (setOutcome e x s).block = s.block := rfl

@[simp] theorem setOutcome_engine_errorCode (e : ErrorCode) (x : Word32) (s : State) :
    (setOutcome e x s).engine.errorCode = s.engine.errorCode := rfl

@[simp] theorem setOutcome_engine_successCount (e : ErrorCode) (x : Word32) (s : State) :
    (setOutcome e x s).engine.successCount = s.engine.successCount := rfl

@[simp] theorem setOutcome_engine_errorCount (e : ErrorCode) (x : Word32) (s : State) :
    (setOutcome e x s).engine.errorCount = s.engine.errorCount := rfl

@[simp] theorem setOutcome_engine_turnaroundMs (e : ErrorCode) (x : Word32) (s : State) :
    (setOutcome e x s).engine.turnaroundMs = s.engine.turnaroundMs := rfl

@[simp] theorem setOutcome_engine_timeoutMs (e : ErrorCode) (x : Word32) (s : State) :
    (setOutcome e x s).engine.timeoutMs = s.engine.timeoutMs := rfl

@[simp] theorem setOutcome_engine_dir (e : ErrorCode) (x : Word32) (s : State) :
    (setOutcome e x s).engine.dir = s.engine.dir := rfl

@[simp] theorem setOutcome_engine_phase (e : ErrorCode) (x : Word32) (s : State) :
    (setOutcome e x s).engine.phase = s.engine.phase := rfl

@[simp] theorem setOutcome_engine_txn (e : ErrorCode) (x : Word32) (s : State) :
    (setOutcome e x s).engine.txn = { s.engine.txn with err := e, value := x } := rfl

@[simp] theorem setOutcome_chan (e : ErrorCode) (x : Word32) (s : State) :
    (setOutcome e x s).chan = s.chan := rfl

@[simp] theorem setOutcome_inputs (e : ErrorCode) (x : Word32) (s : State) :
    (setOutcome e x s).inputs = s.inputs := rfl

@[simp] theorem setOutcome_reply (e : ErrorCode) (x : Word32) (s : State) :
    (setOutcome e x s).reply = s.reply := rfl

/-! `startTransaction` -/

@[simp] theorem startTransaction_params (r : Word16) (i : Byte) (s : State) :
    (startTransaction r i s).params = s.params := rfl

@[simp] theorem startTransaction_block (r : Word16) (i : Byte) (s : State) :
    (startTransaction r i s).block = s.block := rfl

@[simp] theorem startTransaction_engine_errorCode (r : Word16) (i : Byte) (s : State) :
    (startTransaction r i s).engine.errorCode = s.engine.errorCode := rfl

@[simp] theorem startTransaction_engine_successCount (r : Word16) (i : Byte) (s : State) :
    (startTransaction r i s).engine.successCount = s.engine.successCount := rfl

@[simp] theorem startTransaction_engine_errorCount (r : Word16) (i : Byte) (s : State) :
    (startTransaction r i s).engine.errorCount = s.engine.errorCount := rfl

@[simp] theorem startTransaction_engine_turnaroundMs (r : Word16) (i : Byte) (s : State) :
    (startTransaction r i s).engine.turnaroundMs = s.engine.turnaroundMs := rfl

@[simp] theorem startTransaction_engine_timeoutMs (r : Word16) (i : Byte) (s : State) :
    (startTransaction r i s).engine.timeoutMs = s.engine.timeoutMs := rfl

@[simp] theorem startTransaction_engine_dir (r : Word16) (i : Byte) (s : State) :
    (startTransaction r i s).engine.dir = s.engine.dir := rfl

@[simp] theorem startTransaction_engine_phase (r : Word16) (i : Byte) (s : State) :
    (startTransaction r i s).engine.phase = .transmitting .preFlush := rfl

@[simp] theorem startTransaction_engine_txn (r : Word16) (i : Byte) (s : State) :
    (startTransaction r i s).engine.txn = { s.engine.txn with
        reg := r, sid := i, err := .noError, value := s.params.nanSentinel } := rfl

@[simp] theorem startTransaction_chan (r : Word16) (i : Byte) (s : State) :
    (startTransaction r i s).chan = s.chan := rfl

@[simp] theorem startTransaction_inputs (r : Word16) (i : Byte) (s : State) :
    (startTransaction r i s).inputs = s.inputs := rfl

@[simp] theorem startTransaction_reply (r : Word16) (i : Byte) (s : State) :
    (startTransaction r i s).reply = none := rfl

/-! `setDirection` -/

@[simp] theorem setDirection_params (d : Dir) (s : State) :
    (setDirection d s).params = s.params := by
  unfold setDirection; split <;> simp_all

@[simp] theorem setDirection_block (d : Dir) (s : State) :
    (setDirection d s).block = s.block := by
  unfold setDirection; split <;> simp_all

@[simp] theorem setDirection_engine_errorCode (d : Dir) (s : State) :
    (setDirection d s).engine.errorCode = s.engine.errorCode := by
  unfold setDirection; split <;> simp_all

@[simp] theorem setDirection_engine_successCount (d : Dir) (s : State) :
    (setDirection d s).engine.successCount = s.engine.successCount := by
  unfold setDirection; split <;> simp_all

@[simp] theorem setDirection_engine_errorCount (d : Dir) (s : State) :
    (setDirection d s).engine.errorCount = s.engine.errorCount := by
  unfold setDirection; split <;> simp_all

@[simp] theorem setDirection_engine_turnaroundMs (d : Dir) (s : State) :
    (setDirection d s).engine.turnaroundMs = s.engine.turnaroundMs := by
  unfold setDirection; split <;> simp_all

@[simp] theorem setDirection_engine_timeoutMs (d : Dir) (s : State) :
    (setDirection d s).engine.timeoutMs = s.engine.timeoutMs := by
  unfold setDirection; split <;> simp_all

@[simp] theorem setDirection_engine_dir (d : Dir) (s : State) :
    (setDirection d s).engine.dir = if s.params.hasDirLine then d else s.engine.dir := by
  unfold setDirection; split <;> simp_all

@[simp] theorem setDirection_engine_phase (d : Dir) (s : State) :
    (setDirection d s).engine.phase = s.engine.phase := by
  unfold setDirection; split <;> simp_all

@[simp] theorem setDirection_engine_txn (d : Dir) (s : State) :
    (setDirection d s).engine.txn = s.engine.txn := by
  unfold setDirection; split <;> simp_all

@[simp] theorem setDirection_chan (d : Dir) (s : State) :
    (setDirection d s).chan = s.chan := by
  unfold setDirection; split <;> simp_all

@[simp] theorem setDirection_inputs (d : Dir) (s : State) :
    (setDirection d s).inputs = s.inputs := by
  unfold setDirection; split <;> simp_all

@[simp] theorem setDirection_reply (d : Dir) (s : State) :
    (setDirection d s).reply = s.reply := by
  unfold setDirection; split <;> simp_all

/-! `discardRx` -/

@[simp] theorem discardRx_params (s : State) :
    (discardRx s).params = s.params := rfl

@[simp] theorem discardRx_block (s : State) :
    (discardRx s).block = s.block := rfl

@[simp] theorem discardRx_engine (s : State) :
    (discardRx s).engine = s.engine := rfl

@[simp] theorem discardRx_chan_rx (s : State) :
    (discardRx s).chan.rx = [] := rfl

@[simp] theorem discardRx_chan_tx (s : State) :
    (discardRx s).chan.tx = s.chan.tx := rfl

@[simp] theorem discardRx_chan_line (s : State) :
    (discardRx s).chan.line = s.chan.line := rfl

@[simp] theorem discardRx_inputs (s : State) :
    (discardRx s).inputs = s.inputs := rfl

@[simp] theorem discardRx_reply (s : State) :
    (discardRx s).reply = s.reply := rfl

/-! `writeChannel` -/

@[simp] theorem writeChannel_params (bs : List Byte) (s : State) :
    (writeChannel bs s).params = s.params := rfl

@[simp] theorem writeChannel_block (bs : List Byte) (s : State) :
    (writeChannel bs s).block = s.block := rfl

@[simp] theorem writeChannel_engine (bs : List Byte) (s : State) :
    (writeChannel bs s).engine = s.engine := rfl

@[simp] theorem writeChannel_chan_rx (bs : List Byte) (s : State) :
    (writeChannel bs s).chan.rx = s.chan.rx := rfl

@[simp] theorem writeChannel_chan_tx (bs : List Byte) (s : State) :
    (writeChannel bs s).chan.tx = s.chan.tx ++ bs := rfl

@[simp] theorem writeChannel_chan_line (bs : List Byte) (s : State) :
    (writeChannel bs s).chan.line = s.chan.line := rfl

@[simp] theorem writeChannel_inputs (bs : List Byte) (s : State) :
    (writeChannel bs s).inputs = s.inputs := rfl

@[simp] theorem writeChannel_reply (bs : List Byte) (s : State) :
    (writeChannel bs s).reply = s.reply := rfl

/-! `loseByte` -/

@[simp] theorem loseByte_params (s : State) :
    (loseByte s).params = s.params := rfl

@[simp] theorem loseByte_block (s : State) :
    (loseByte s).block = s.block := rfl

@[simp] theorem loseByte_engine (s : State) :
    (loseByte s).engine = s.engine := rfl

@[simp] theorem loseByte_chan_rx (s : State) :
    (loseByte s).chan.rx = s.chan.rx.tail := rfl

@[simp] theorem loseByte_chan_tx (s : State) :
    (loseByte s).chan.tx = s.chan.tx := rfl

@[simp] theorem loseByte_chan_line (s : State) :
    (loseByte s).chan.line = s.chan.line := rfl

@[simp] theorem loseByte_inputs (s : State) :
    (loseByte s).inputs = s.inputs := rfl

@[simp] theorem loseByte_reply (s : State) :
    (loseByte s).reply = s.reply := rfl

/-! `recordExchange` -/

@[simp] theorem recordExchange_errorCode (err : ErrorCode) (e : Engine) :
    (recordExchange err e).errorCode = err := by unfold recordExchange; split <;> rfl

@[simp] theorem recordExchange_turnaroundMs (err : ErrorCode) (e : Engine) :
    (recordExchange err e).turnaroundMs = e.turnaroundMs := by unfold recordExchange; split <;> rfl

@[simp] theorem recordExchange_timeoutMs (err : ErrorCode) (e : Engine) :
    (recordExchange err e).timeoutMs = e.timeoutMs := by unfold recordExchange; split <;> rfl

@[simp] theorem recordExchange_dir (err : ErrorCode) (e : Engine) :
    (recordExchange err e).dir = e.dir := by unfold recordExchange; split <;> rfl

@[simp] theorem recordExchange_phase (err : ErrorCode) (e : Engine) :
    (recordExchange err e).phase = e.phase := by unfold recordExchange; split <;> rfl

@[simp] theorem recordExchange_txn (err : ErrorCode) (e : Engine) :
    (recordExchange err e).txn = e.txn := by unfold recordExchange; split <;> rfl

@[simp] theorem recordExchange_successCount (err : ErrorCode) (e : Engine) :
    (recordExchange err e).successCount = if err = .noError then e.successCount + 1 else e.successCount := by
  unfold recordExchange; split <;> simp_all

@[simp] theorem recordExchange_errorCount (err : ErrorCode) (e : Engine) :
    (recordExchange err e).errorCount = if err ≠ .noError then e.errorCount + 1 else e.errorCount := by
  unfold recordExchange; split <;> simp_all

/-! `finishExchange` -/

@[simp] theorem finishExchange_params (s : State) :
    (finishExchange s).params = s.params := by
  simp [finishExchange]

@[simp] theorem finishExchange_block (s : State) :
    (finishExchange s).block = s.block := by
  simp [finishExchange]

@[simp] theorem finishExchange_engine_errorCode (s : State) :
    (finishExchange s).engine.errorCode = s.engine.txn.err := by
  simp [finishExchange]

@[simp] theorem finishExchange_engine_successCount (s : State) :
    (finishExchange s).engine.successCount = (recordExchange s.engine.txn.err s.engine).successCount := by
  simp [finishExchange]

@[simp] theorem finishExchange_engine_errorCount (s : State) :
    (finishExchange s).engine.errorCount = (recordExchange s.engine.txn.err s.engine).errorCount := by
  simp [finishExchange]

@[simp] theorem finishExchange_engine_turnaroundMs (s : State) :
    (finishExchange s).engine.turnaroundMs = s.engine.turnaroundMs := by
  simp [finishExchange]

@[simp] theorem finishExchange_engine_timeoutMs (s : State) :
    (finishExchange s).engine.timeoutMs = s.engine.timeoutMs := by
  simp [finishExchange]

@[simp] theorem finishExchange_engine_dir (s : State) :
    (finishExchange s).engine.dir = if s.params.hasDirLine then .rx else s.engine.dir := by
  simp [finishExchange]

@[simp] theorem finishExchange_engine_phase (s : State) :
    (finishExchange s).engine.phase = .done := by
  simp [finishExchange]

@[simp] theorem finishExchange_engine_txn (s : State) :
    (finishExchange s).engine.txn = s.engine.txn := by
  simp [finishExchange]

@[simp] theorem finishExchange_chan (s : State) :
    (finishExchange s).chan = s.chan := by
  simp [finishExchange]

@[simp] theorem finishExchange_inputs (s : State) :
    (finishExchange s).inputs = s.inputs := by
  simp [finishExchange]

@[simp] theorem finishExchange_reply (s : State) :
    (finishExchange s).reply = some (.word32 s.engine.txn.value) := by
  simp [finishExchange]

/-! `arriveByte` -/

@[simp] theorem arriveByte_params (b : Byte) (s : State) :
    (arriveByte b s).params = s.params := by
  unfold arriveByte; split <;> rfl

@[simp] theorem arriveByte_block (b : Byte) (s : State) :
    (arriveByte b s).block = s.block := by
  unfold arriveByte; split <;> rfl

@[simp] theorem arriveByte_engine (b : Byte) (s : State) :
    (arriveByte b s).engine = s.engine := by
  unfold arriveByte; split <;> rfl

@[simp] theorem arriveByte_inputs (b : Byte) (s : State) :
    (arriveByte b s).inputs = s.inputs := by
  unfold arriveByte; split <;> rfl

@[simp] theorem arriveByte_reply (b : Byte) (s : State) :
    (arriveByte b s).reply = s.reply := by
  unfold arriveByte; split <;> rfl

@[simp] theorem arriveByte_chan_tx (b : Byte) (s : State) :
    (arriveByte b s).chan.tx = s.chan.tx := by
  unfold arriveByte; split <;> rfl

/-! `sendByte` -/

@[simp] theorem sendByte_params (s : State) :
    (sendByte s).params = s.params := by
  unfold sendByte; split <;> rfl

@[simp] theorem sendByte_block (s : State) :
    (sendByte s).block = s.block := by
  unfold sendByte; split <;> rfl

@[simp] theorem sendByte_engine (s : State) :
    (sendByte s).engine = s.engine := by
  unfold sendByte; split <;> rfl

@[simp] theorem sendByte_inputs (s : State) :
    (sendByte s).inputs = s.inputs := by
  unfold sendByte; split <;> rfl

@[simp] theorem sendByte_reply (s : State) :
    (sendByte s).reply = s.reply := by
  unfold sendByte; split <;> rfl

@[simp] theorem sendByte_chan_rx (s : State) :
    (sendByte s).chan.rx = s.chan.rx := by
  unfold sendByte; split <;> rfl

/-! `andThen` -/

@[simp] theorem andThen_next (s : State) (f : State → Host.Outcome State Fault Refusal) :
    andThen (.next s) f = f s := rfl

@[simp] theorem andThen_fault (r : Fault) (f : State → Host.Outcome State Fault Refusal) :
    andThen (.fault r) f = .fault r := rfl

@[simp] theorem andThen_refused (r : Refusal) (f : State → Host.Outcome State Fault Refusal) :
    andThen (.refused r) f = .refused r := rfl

end Sys2Proof.Machine
end

