-- ==== Sys2Proof/Laws/Flags.lean ====
section
/-! SUPPORT. What each write of `STATUS` leaves in each of its fields (10_state.md rules R25 to R29). -/

namespace Sys2Proof.Machine

/-! `setReqv` -/

@[simp] theorem reqv_setReqv (st : BitVec 8) : reqv (setReqv st) = true := by
  simp [reqv, setReqv]

@[simp] theorem verdict_setReqv (st : BitVec 8) : verdict (setReqv st) = verdict st := by
  unfold verdict setReqv
  ext i hi
  have : i = 0 ∨ i = 1 ∨ i = 2 := by omega
  rcases this with rfl | rfl | rfl <;> simp

@[simp] theorem valid_setReqv (st : BitVec 8) : valid (setReqv st) = valid st := by
  simp [valid, setReqv]

@[simp] theorem ill_setReqv (st : BitVec 8) : ill (setReqv st) = ill st := by
  simp [ill, setReqv]

@[simp] theorem reservedZero_setReqv (st : BitVec 8) :
    reservedZero (setReqv st) = reservedZero st := by
  simp [reservedZero, setReqv]

/-! `setIll` -/

@[simp] theorem ill_setIll (st : BitVec 8) : ill (setIll st) = true := by
  simp [ill, setIll]

@[simp] theorem verdict_setIll (st : BitVec 8) : verdict (setIll st) = verdict st := by
  unfold verdict setIll
  ext i hi
  have : i = 0 ∨ i = 1 ∨ i = 2 := by omega
  rcases this with rfl | rfl | rfl <;> simp

@[simp] theorem valid_setIll (st : BitVec 8) : valid (setIll st) = valid st := by
  simp [valid, setIll]

@[simp] theorem reqv_setIll (st : BitVec 8) : reqv (setIll st) = reqv st := by
  simp [reqv, setIll]

@[simp] theorem reservedZero_setIll (st : BitVec 8) :
    reservedZero (setIll st) = reservedZero st := by
  simp [reservedZero, setIll]

@[simp] theorem setIll_setIll (st : BitVec 8) : setIll (setIll st) = setIll st := by
  simp [setIll, BitVec.or_assoc]

/-! `setVerdict` -/

@[simp] theorem valid_setVerdict (v : BitVec 3) (st : BitVec 8) :
    valid (setVerdict v st) = true := by
  simp [valid, setVerdict]

@[simp] theorem verdict_setVerdict (v : BitVec 3) (st : BitVec 8) :
    verdict (setVerdict v st) = v := by
  unfold verdict setVerdict
  ext i hi
  have : i = 0 ∨ i = 1 ∨ i = 2 := by omega
  rcases this with rfl | rfl | rfl <;> simp

@[simp] theorem reqv_setVerdict (v : BitVec 3) (st : BitVec 8) :
    reqv (setVerdict v st) = reqv st := by
  simp [reqv, setVerdict]

@[simp] theorem ill_setVerdict (v : BitVec 3) (st : BitVec 8) :
    ill (setVerdict v st) = ill st := by
  simp [ill, setVerdict]

@[simp] theorem reservedZero_setVerdict (v : BitVec 3) (st : BitVec 8) :
    reservedZero (setVerdict v st) = reservedZero st := by
  simp [reservedZero, setVerdict]

/-! The Error Code numbers (60_exceptions.md rule R171). -/

@[simp] theorem errorCodeOf_errorNumber (e : ErrorCode) : errorCodeOf (errorNumber e) = some e := by
  cases e <;> rfl

/-- The verdicts that the block writes number an Error Code. -/
theorem errorCodeOf_legal (v : BitVec 3) (h : v.toNat ≤ 2) :
    (v = verdictOk ∧ errorCodeOf v = some .noError) ∨
    (v = verdictCrcError ∧ errorCodeOf v = some .crcError) ∨
    (v = verdictWrongHeader ∧ errorCodeOf v = some .wrongHeaderBytes) := by
  have hv : v.toNat = 0 ∨ v.toNat = 1 ∨ v.toNat = 2 := by omega
  rcases hv with h | h | h
  · have : v = 0#3 := BitVec.eq_of_toNat_eq (by simpa using h)
    subst this; decide
  · have : v = 1#3 := BitVec.eq_of_toNat_eq (by simpa using h)
    subst this; decide
  · have : v = 2#3 := BitVec.eq_of_toNat_eq (by simpa using h)
    subst this; decide

end Sys2Proof.Machine
end

