-- ==== Sys2Proof/Laws/Exec.lean ====
section
/-! SUPPORT. What each meaning answers, in terms of the shared operations, and everything that
issuing a word can do. -/

namespace Sys2Proof.Machine

@[simp] theorem exec_crcInit (s : State) :
    exec .crcInit s = .next (setCrc Config.crcSeed s) := rfl

@[simp] theorem exec_crcByte (d : Byte) (s : State) :
    exec (.crcByte d) s = .next (setCrc (crcStep s.block.crc d) s) := rfl

@[simp] theorem exec_buildReq (sid : Byte) (reg : Word16) (s : State) :
    exec (.buildReq sid reg) s = .next (setRequest (buildRequest sid reg) s) := rfl

@[simp] theorem exec_parse (sid : Byte) (s : State) :
    exec (.parse sid) s =
      .next (setResult (parseResponse s.params.nanSentinel s.block.rsp sid).1
        (parseResponse s.params.nanSentinel s.block.rsp sid).2 s) := rfl

theorem rspIndex_eq_some (idx : BitVec 4) (h : idx.toNat < 9) :
    rspIndex idx = some ⟨idx.toNat, h⟩ := by simp [rspIndex, h]

theorem rspIndex_eq_none (idx : BitVec 4) (h : 9 ≤ idx.toNat) : rspIndex idx = none := by
  simp [rspIndex, Nat.not_lt.mpr h]

theorem exec_rspLoad_legal (idx : BitVec 4) (d : Byte) (s : State) (h : idx.toNat < 9) :
    exec (.rspLoad idx d) s = .next (setRspByte ⟨idx.toNat, h⟩ d s) := by
  simp [exec, execRspLoad, rspIndex_eq_some idx h]

theorem exec_rspLoad_illegal (idx : BitVec 4) (d : Byte) (s : State) (h : 9 ≤ idx.toNat) :
    exec (.rspLoad idx d) s = .next (raiseIllegal s) := by
  simp [exec, execRspLoad, rspIndex_eq_none idx h]

/-- Everything that executing an instruction can do to the state. -/
theorem exec_cases {i : Instr} {s t : State} (h : exec i s = .next t) :
    (i = .crcInit ∧ t = setCrc Config.crcSeed s) ∨
    (∃ d, i = .crcByte d ∧ t = setCrc (crcStep s.block.crc d) s) ∨
    (∃ sid reg, i = .buildReq sid reg ∧ t = setRequest (buildRequest sid reg) s) ∨
    (∃ idx d, ∃ hi : idx.toNat < 9, i = .rspLoad idx d ∧ t = setRspByte ⟨idx.toNat, hi⟩ d s) ∨
    (∃ idx d, 9 ≤ idx.toNat ∧ i = .rspLoad idx d ∧ t = raiseIllegal s) ∨
    (∃ sid, i = .parse sid ∧
      t = setResult (parseResponse s.params.nanSentinel s.block.rsp sid).1
        (parseResponse s.params.nanSentinel s.block.rsp sid).2 s) := by
  cases i with
  | crcInit => simp at h; simp [h]
  | crcByte d => simp at h; simp [h]
  | buildReq sid reg => simp at h; simp [h]
  | parse sid => simp at h; simp [h]
  | rspLoad idx d =>
    by_cases hi : idx.toNat < 9
    · rw [exec_rspLoad_legal idx d s hi] at h
      injection h with h
      exact .inr (.inr (.inr (.inl ⟨idx, d, hi, rfl, h.symm⟩)))
    · have hi := Nat.not_lt.mp hi
      rw [exec_rspLoad_illegal idx d s hi] at h
      injection h with h
      exact .inr (.inr (.inr (.inr (.inl ⟨idx, d, hi, rfl, h.symm⟩))))

/-- The classification of a frame, case by case (41_codec.md rule R126). -/
theorem parseResponse_cases (nan : Word32) (r : Vector Byte 9) (sid : Byte) :
    (headerOk r sid = false ∧ parseResponse nan r sid = (verdictWrongHeader, nan)) ∨
    (headerOk r sid = true ∧ crcOk r = false ∧ parseResponse nan r sid = (verdictCrcError, nan)) ∨
    (headerOk r sid = true ∧ crcOk r = true ∧
      parseResponse nan r sid = (verdictOk, decodeFloat r)) := by
  unfold parseResponse
  cases headerOk r sid <;> cases crcOk r <;> simp

/-- Every frame gets a verdict that the block may write (10_state.md rule R26). -/
theorem parseResponse_legal (nan : Word32) (r : Vector Byte 9) (sid : Byte) :
    (parseResponse nan r sid).1.toNat ≤ 2 := by
  rcases parseResponse_cases nan r sid with ⟨_, h⟩ | ⟨_, _, h⟩ | ⟨_, _, h⟩ <;> rw [h] <;>
    simp [verdictWrongHeader, verdictCrcError, verdictOk]

/-- A verdict other than OK comes with the sentinel (10_state.md rule R24). -/
theorem parseResponse_failed (nan : Word32) (r : Vector Byte 9) (sid : Byte)
    (hv : (parseResponse nan r sid).1 ≠ verdictOk) : (parseResponse nan r sid).2 = nan := by
  rcases parseResponse_cases nan r sid with ⟨_, h⟩ | ⟨_, _, h⟩ | ⟨_, _, h⟩ <;> rw [h] at hv ⊢
  exact absurd rfl hv

/-- Everything that issuing a command word can do. -/
theorem issueWord_cases {w : Word32} {s t : State} (h : issueWord w s = .next t) :
    (∃ i, decode w = .command i ∧ exec i s = .next t) ∨
    (∃ why, decode w = .illegal why ∧ t = raiseIllegal s) := by
  unfold issueWord at h
  split at h
  · exact .inl ⟨_, ‹_›, h⟩
  · injection h with h
    exact .inr ⟨_, ‹_›, h.symm⟩

end Sys2Proof.Machine
end

