-- ==== Sys2Proof/Laws/PerInstr.lean ====
section
/-! SUPPORT. Families of statements made for each instruction as syntax. -/

namespace Sys2Proof.Laws.OpcodeRow

/-- A well-formed instruction's word matches its own row of the opcode map under the row's mask, and
the row is in the map (30_encoding.md rule R63). -/
def Statement (i : Instr) : Prop :=
  i.wellFormed = true → i.row.hits (encode i) = true ∧ i.row ∈ opTable

theorem crcInit : Statement .crcInit := fun _ => by decide

theorem crcByte (data : Byte) : Statement (.crcByte data) := fun _ => by
  have e := encode_crcByte_toNat data
  refine ⟨?_, by simp [Instr.row, opTable]⟩
  simp only [Instr.row, OpRow.hits, beq_iff_eq]
  refine (mask_crcByte _).2 ⟨?_, ?_⟩ <;> rw [field_eq_iff, e] <;> simp <;> omega

theorem buildReq (sid : Byte) (reg : Word16) : Statement (.buildReq sid reg) := fun _ => by
  have e := encode_buildReq_toNat sid reg
  refine ⟨?_, by simp [Instr.row, opTable]⟩
  simp only [Instr.row, OpRow.hits, beq_iff_eq]
  refine (mask_buildReq _).2 ⟨?_, ?_⟩ <;> rw [field_eq_iff, e] <;> simp <;> omega

theorem rspLoad (idx : BitVec 4) (data : Byte) : Statement (.rspLoad idx data) := fun _ => by
  have e := encode_rspLoad_toNat idx data
  refine ⟨?_, by simp [Instr.row, opTable]⟩
  simp only [Instr.row, OpRow.hits, beq_iff_eq]
  refine (mask_rspLoad _).2 ⟨?_, ?_⟩ <;> rw [field_eq_iff, e] <;> simp <;> omega

theorem parse (sid : Byte) : Statement (.parse sid) := fun _ => by
  have e := encode_parse_toNat sid
  refine ⟨?_, by simp [Instr.row, opTable]⟩
  simp only [Instr.row, OpRow.hits, beq_iff_eq]
  refine (mask_parse _).2 ⟨?_, ?_, ?_⟩ <;> rw [field_eq_iff, e] <;> simp <;> omega

end Sys2Proof.Laws.OpcodeRow
end

