-- ==== Sys2Proof/Laws/Step.lean ====
section
/-! SUPPORT. Everything that one step of the Transaction Engine, one call and one step of the machine
can do, with the guards under which each happens. -/

namespace Sys2Proof.Machine

/-- What one step of the Transaction Engine can do, the clock reading `now` (R172 to R178). -/
inductive EngineMove (now : Nat) (s : State) : State → Prop where
  /-- No transaction is in flight. -/
  | rest (h : s.engine.inFlight = false) : EngineMove now s s
  | preFlush (h : s.engine.phase = .transmitting .preFlush) :
      EngineMove now s
        (goTo (.transmitting .build) { s with chan := { s.chan with rx := [], line := [] } })
  | build (u : State) (h : s.engine.phase = .transmitting .build)
      (hu : issueWord (encode (.buildReq s.engine.txn.sid s.engine.txn.reg)) s = .next u) :
      EngineMove now s (goTo (.transmitting .assertTx) u)
  | assertTx (h : s.engine.phase = .transmitting .assertTx) :
      EngineMove now s (goTo (.transmitting .settle) (startWait now (setDirection .tx s)))
  | settled (h : s.engine.phase = .transmitting .settle)
      (ht : s.params.tSettle ≤ elapsed now s) : EngineMove now s (goTo (.transmitting .write) s)
  | settling (h : s.engine.phase = .transmitting .settle)
      (ht : ¬s.params.tSettle ≤ elapsed now s) : EngineMove now s s
  | write (h : s.engine.phase = .transmitting .write) :
      EngineMove now s (goTo (.transmitting .waitSent) (writeChannel s.block.req.toList s))
  | sentAll (h : s.engine.phase = .transmitting .waitSent) (ht : s.chan.tx = []) :
      EngineMove now s (goTo .awaitingResponse (startWait now (setDirection .rx s)))
  | sending (h : s.engine.phase = .transmitting .waitSent) (ht : s.chan.tx ≠ []) :
      EngineMove now s s
  | nineBytes (h : s.engine.phase = .awaitingResponse) (hn : 9 ≤ s.chan.rx.length) :
      EngineMove now s (goTo (.validating .read) s)
  | timeout (h : s.engine.phase = .awaitingResponse) (hn : s.chan.rx.length < 9)
      (ht : s.engine.turnaroundMs.toNat < elapsed now s) :
      EngineMove now s (goTo (.draining .start) (setOutcome .timeout s.params.nanSentinel s))
  | polling (h : s.engine.phase = .awaitingResponse) (hn : s.chan.rx.length < 9)
      (ht : ¬s.engine.turnaroundMs.toNat < elapsed now s) : EngineMove now s s
  | insufficient (h : s.engine.phase = .validating .read) (hn : s.chan.rx.length < 9) :
      EngineMove now s
        (goTo (.draining .start) (setOutcome .insufficientBytes s.params.nanSentinel
          { s with chan := { s.chan with rx := s.chan.rx.drop 9 } }))
  | readNine (h : s.engine.phase = .validating .read) (hn : 9 ≤ s.chan.rx.length) :
      EngineMove now s
        (goTo (.validating (.issue (parseWords (s.chan.rx.take 9) s.engine.txn.sid)))
          { s with chan := { s.chan with rx := s.chan.rx.drop 9 } })
  | issue (w : Word32) (ws : List Word32) (u : State)
      (h : s.engine.phase = .validating (.issue (w :: ws))) (hu : issueWord w s = .next u) :
      EngineMove now s (goTo (.validating (.issue ws)) u)
  | verdict (e : ErrorCode) (h : s.engine.phase = .validating (.issue []))
      (he : errorCodeOf (verdict s.block.status) = some e) :
      EngineMove now s (goTo (.draining .start) (setOutcome e s.block.value s))
  | drainIdle (h : s.engine.phase = .draining .start) (hr : s.chan.rx = []) :
      EngineMove now s (finishExchange s)
  | drainStart (h : s.engine.phase = .draining .start) (hr : s.chan.rx ≠ []) :
      EngineMove now s (goTo (.draining .collecting) (startWait now s))
  | drainQuiet (h : s.engine.phase = .draining .collecting)
      (ht : s.engine.timeoutMs.toNat ≤ elapsed now s) (hr : s.chan.rx = []) :
      EngineMove now s (finishExchange s)
  | drainOverride (h : s.engine.phase = .draining .collecting)
      (ht : s.engine.timeoutMs.toNat ≤ elapsed now s) (hr : s.chan.rx ≠ []) :
      EngineMove now s (finishExchange (setOutcome .timeout s.engine.txn.value s))
  | drainDiscard (h : s.engine.phase = .draining .collecting)
      (ht : ¬s.engine.timeoutMs.toNat ≤ elapsed now s) : EngineMove now s (discardRx s)

theorem andThen_eq_next {o : Host.Outcome State Fault Refusal}
    {f : State → Host.Outcome State Fault Refusal} {t : State} (h : andThen o f = .next t) :
    ∃ u, o = .next u ∧ f u = .next t := by
  cases o with
  | next u => exact ⟨u, rfl, h⟩
  | fault r => cases h
  | refused r => cases h

theorem transmitStep_cases {stage : TxStep} {now : Nat} {s t : State}
    (hp : s.engine.phase = .transmitting stage) (h : transmitStep stage now s = .next t) :
    EngineMove now s t := by
  cases stage with
  | preFlush => injection h with h; subst h; exact .preFlush hp
  | build =>
    obtain ⟨u, hu, h⟩ := andThen_eq_next h
    injection h with h; subst h; exact .build u hp hu
  | assertTx => injection h with h; subst h; exact .assertTx hp
  | settle =>
    simp only [transmitStep] at h
    split at h <;> injection h with h <;> subst h
    · exact .settled hp ‹_›
    · exact .settling hp ‹_›
  | write => injection h with h; subst h; exact .write hp
  | waitSent =>
    simp only [transmitStep] at h
    split at h <;> injection h with h <;> subst h
    · exact .sentAll hp ‹_›
    · exact .sending hp (by simp [*])

theorem validateStep_cases {stage : ValStep} {now : Nat} {s t : State}
    (hp : s.engine.phase = .validating stage) (h : validateStep stage s = .next t) :
    EngineMove now s t := by
  cases stage with
  | read =>
    by_cases hn : s.chan.rx.length < 9
    · simp [validateStep, Config.rspLen, hn] at h
      subst h; exact .insufficient hp hn
    · simp [validateStep, Config.rspLen, hn] at h
      subst h; exact .readNine hp (Nat.not_lt.mp hn)
  | issue ws =>
    cases ws with
    | cons w ws =>
      obtain ⟨u, hu, h⟩ := andThen_eq_next h
      injection h with h; subst h; exact .issue w ws u hp hu
    | nil =>
      simp only [validateStep] at h
      split at h
      · injection h with h; subst h; exact .verdict _ hp ‹_›
      · cases h

theorem pollStep_cases {now : Nat} {s : State} (hp : s.engine.phase = .awaitingResponse) :
    EngineMove now s (pollStep now s) := by
  by_cases hn : 9 ≤ s.chan.rx.length
  · simpa [pollStep, Config.rspLen, hn] using EngineMove.nineBytes hp hn
  · by_cases ht : s.engine.turnaroundMs.toNat < elapsed now s
    · simpa [pollStep, Config.rspLen, hn, ht] using
        EngineMove.timeout hp (Nat.not_le.mp hn) ht
    · simpa [pollStep, Config.rspLen, hn, ht] using
        EngineMove.polling hp (Nat.not_le.mp hn) ht

theorem drainStep_cases {stage : DrainStep} {now : Nat} {s : State}
    (hp : s.engine.phase = .draining stage) : EngineMove now s (drainStep stage now s) := by
  cases stage with
  | start =>
    simp only [drainStep]
    split
    · exact .drainIdle hp ‹_›
    · exact .drainStart hp (by simp [*])
  | collecting =>
    simp only [drainStep]
    split
    · split
      · exact .drainQuiet hp ‹_› ‹_›
      · exact .drainOverride hp ‹_› (by simp [*])
    · exact .drainDiscard hp ‹_›

/-- Everything that one step of the Transaction Engine can do. -/
theorem engineStep_cases {now : Nat} {s t : State} (h : engineStep now s = .next t) :
    EngineMove now s t := by
  unfold engineStep at h
  split at h
  · injection h with h; subst h; exact .rest (by simp [Engine.inFlight, *])
  · exact transmitStep_cases ‹_› h
  · injection h with h; subst h; exact pollStep_cases ‹_›
  · exact validateStep_cases ‹_› h
  · injection h with h; subst h; exact drainStep_cases ‹_›
  · injection h with h; subst h; exact .rest (by simp [Engine.inFlight, *])

/-- Everything that a call can do: it starts a transaction, or it writes only the Diagnostics State,
the two timeouts and the reply. -/
theorem hostCall_cases {c : HostCall} {s t : State} (h : hostCall c s = .next t) :
    (∃ reg sid, c = .readValue reg sid ∧ s.engine.inFlight = false ∧
      t = startTransaction reg (sid.getD Config.defaultSlaveId) s) ∨
    ((∀ reg sid, c ≠ .readValue reg sid) ∧
      ∃ code succ errs turn drain r,
        t = { s with
          engine := { s.engine with
            errorCode := code, successCount := succ, errorCount := errs,
            turnaroundMs := turn, timeoutMs := drain }
          reply := r } ∧
        (succ = s.engine.successCount ∨
          succ = 0 ∧ (c = .getSuccessCount true ∨ c = .clearSuccessCount)) ∧
        (errs = s.engine.errorCount ∨
          errs = 0 ∧ (c = .getErrorCount true ∨ c = .clearErrorCount)) ∧
        (turn = s.engine.turnaroundMs ∨ ∃ v, turn = clampMs v) ∧
        (drain = s.engine.timeoutMs ∨ ∃ v, drain = clampMs v)) := by
  cases c with
  | readValue reg sid =>
    simp only [hostCall] at h
    split at h
    · cases h
    · injection h with h
      exact .inl ⟨reg, sid, rfl, by simp_all, h.symm⟩
  | setTurnaroundMs v =>
    injection h with h; subst h
    exact .inr ⟨by simp, _, _, _, _, _, _, rfl, .inl rfl, .inl rfl, .inr ⟨v, rfl⟩, .inl rfl⟩
  | setTimeoutMs v =>
    injection h with h; subst h
    exact .inr ⟨by simp, _, _, _, _, _, _, rfl, .inl rfl, .inl rfl, .inl rfl, .inr ⟨v, rfl⟩⟩
  | getTurnaroundMs =>
    injection h with h; subst h
    exact .inr ⟨by simp, _, _, _, _, _, _, rfl, .inl rfl, .inl rfl, .inl rfl, .inl rfl⟩
  | getTimeoutMs =>
    injection h with h; subst h
    exact .inr ⟨by simp, _, _, _, _, _, _, rfl, .inl rfl, .inl rfl, .inl rfl, .inl rfl⟩
  | getErrorCode clear =>
    injection h with h; subst h
    exact .inr ⟨by simp, _, _, _, _, _, _, rfl, .inl rfl, .inl rfl, .inl rfl, .inl rfl⟩
  | getErrorCount clear =>
    injection h with h; subst h
    refine .inr ⟨by simp, _, _, _, _, _, _, rfl, .inl rfl, ?_, .inl rfl, .inl rfl⟩
    cases clear <;> simp
  | getSuccessCount clear =>
    injection h with h; subst h
    refine .inr ⟨by simp, _, _, _, _, _, _, rfl, ?_, .inl rfl, .inl rfl, .inl rfl⟩
    cases clear <;> simp
  | clearErrorCode =>
    injection h with h; subst h
    exact .inr ⟨by simp, _, _, _, _, _, _, rfl, .inl rfl, .inl rfl, .inl rfl, .inl rfl⟩
  | clearErrorCount =>
    injection h with h; subst h
    exact .inr ⟨by simp, _, _, _, _, _, _, rfl, .inl rfl, .inr ⟨rfl, by simp⟩, .inl rfl, .inl rfl⟩
  | clearSuccessCount =>
    injection h with h; subst h
    exact .inr ⟨by simp, _, _, _, _, _, _, rfl, .inr ⟨rfl, by simp⟩, .inl rfl, .inl rfl, .inl rfl⟩

/-- A step takes the next input, or does nothing where none is left. -/
theorem step_cases {s : State} {o : Host.Outcome State Fault Refusal} (h : step s = o) :
    (s.inputs = [] ∧ o = .next s) ∨
    ∃ i rest, s.inputs = i :: rest ∧ takeInput i { s with inputs := rest } = o := by
  unfold step stepInput at h
  split at h
  · exact .inl ⟨‹_›, h.symm⟩
  · exact .inr ⟨_, _, ‹_›, h⟩

theorem step_of_inputs {s : State} {i : Input} {rest : List Input} (h : s.inputs = i :: rest) :
    step s = takeInput i { s with inputs := rest } := by
  simp only [step, stepInput, h]

/-- The same on a state that is written out. -/
@[simp] theorem step_mk (p : Params) (b : Block) (e : Engine) (c : Channel) (i : Input)
    (rest : List Input) (r : Option Reply) :
    step ⟨p, b, e, c, i :: rest, r⟩ = takeInput i ⟨p, b, e, c, rest, r⟩ := rfl

/-! Placing a command where the next step takes it from. -/

@[simp] theorem placeCommand_inputs (w : Word32) (s : State) :
    (placeCommand w s).inputs = .command w :: s.inputs := rfl

theorem placeCommand_inFlight (w : Word32) (s : State) :
    (placeCommand w s).engine.inFlight = false := by
  cases h : s.engine.inFlight
  · simp [placeCommand, h]
  · simp only [placeCommand, h, if_true]; rfl

/-- The next step after placing a word issues it, whatever the state was. -/
theorem step_placeCommand (w : Word32) (s : State) :
    step (placeCommand w s) = issueWord w { placeCommand w s with inputs := s.inputs } := by
  rw [step_of_inputs (placeCommand_inputs w s)]
  simp only [takeInput]
  rw [if_neg]
  simp [placeCommand_inFlight w s]

/-! Runs. -/

@[simp] theorem run_zero (s : State) : run 0 s = .next s := rfl

theorem run_succ (n : Nat) (s : State) : run (n + 1) s = andThen (step s) (run n) := rfl

theorem run_add (m n : Nat) (s : State) : run (m + n) s = andThen (run m s) (run n) := by
  induction m generalizing s with
  | zero => simp
  | succ m ih =>
    rw [Nat.add_right_comm, run_succ, run_succ]
    cases step s with
    | next u => simp [ih]
    | fault r => rfl
    | refused r => rfl

end Sys2Proof.Machine
end

