-- ==== Sys2Proof/Tests/Slice0.lean ====
section
/-! SUPPORT. The model's own tests. Expected values are those of 95_test_vectors.md, or written out
from the encodings of 30_encoding.md; each section says which. The last part gives, for every
statement with hypotheses, a concrete state and operands that meet them. -/

namespace Sys2Proof.Tests

open Sys2Proof.Machine

/-! ### Helpers -/

/-- A state with concrete parameters, the block at reset, no transaction's direction asserted. -/
def st (p : Phase) (rx : List Byte) (ins : List Input) : State :=
  { params := { nanSentinel := 0x7FC00000, hasDirLine := true, tSettle := 5 }
    block := Block.reset 0x7FC00000
    engine :=
      { errorCode := .noError, successCount := 0, errorCount := 0
        turnaroundMs := 100, timeoutMs := 20, dir := .rx, phase := p
        txn := { reg := 0x0018, sid := 1, t0 := 0, err := .noError, value := 0x7FC00000 } }
    chan := { rx := rx, tx := [], line := [] }
    inputs := ins
    reply := none }

/-- `st` with a response frame in `RSP`. -/
def withRsp (r : Vector Byte 9) (s : State) : State :=
  { s with block := { s.block with rsp := r } }

/-- The block after an outcome, where there is a next state. -/
def blockOf (o : Host.Outcome State Fault Refusal) : Option Block :=
  match o with
  | .next s => some s.block
  | .fault _ => none
  | .refused _ => none

/-- The host state after an outcome, where there is a next state. -/
def engineOf (o : Host.Outcome State Fault Refusal) : Option Engine :=
  match o with
  | .next s => some s.engine
  | .fault _ => none
  | .refused _ => none

def isIllegal : Decoded → Bool
  | .command _ => false
  | .illegal _ => true

/-- The valid response of example S5 (230.0). -/
def frame230 : Vector Byte 9 := #v[0x01, 0x04, 0x04, 0x43, 0x66, 0x00, 0x00, 0x0E, 0x1F]

/-- The valid response of example S9 (12.5). -/
def frame12 : Vector Byte 9 := #v[0x01, 0x04, 0x04, 0x41, 0x48, 0x00, 0x00, 0x6F, 0xAE]

/-- S4: the CRC bytes swapped. -/
def frameSwapped : Vector Byte 9 := #v[0x01, 0x04, 0x04, 0x43, 0x66, 0x00, 0x00, 0x1F, 0x0E]

/-! ### WellFormed (R63's extra condition) -/

theorem test_rspLoad_9_ill_formed : (Instr.rspLoad 9 0x12).wellFormed = false := by decide

theorem test_rspLoad_15_ill_formed : (Instr.rspLoad 15 0xFF).wellFormed = false := by decide

theorem test_rspLoad_8_well_formed : (Instr.rspLoad 8 0xAE).wellFormed = true := by decide

/-! ### Decoding, each word bit by bit from its format (R62), and 95_test_vectors.md 2.6 -/

theorem test_decode_crcInit :
    decode 0b0001_0000_00000000_00000000_00000000 = .command .crcInit := by decide

theorem test_decode_crcByte :
    decode 0b0010_0000_00000000_00000000_10000001 = .command (.crcByte 0x81) := by decide

theorem test_decode_buildReq :
    decode 0b0011_0000_11110111_00000001_00000000 = .command (.buildReq 247 0x0100) := by decide

theorem test_decode_rspLoad :
    decode 0b0100_1000_00000000_00000000_10101110 = .command (.rspLoad 8 0xAE) := by decide

theorem test_decode_parse :
    decode 0b0101_0000_00000001_00000000_00000000 = .command (.parse 1) := by decide

theorem test_decode_illegal_words :
    ([0x00000000, 0x10000001, 0x18000000, 0x20000100, 0x31010000, 0x49000012, 0x4F0000FF,
      0x40010000, 0x50010001, 0x51010000, 0x60000000, 0xF0000000, 0xFFFFFFFF] :
      List Word32).all (fun w => isIllegal (decode w)) = true := by decide

theorem test_decode_nearest_legal_words :
    decode 0x20000000 = .command (.crcByte 0x00) ∧ decode 0x300000FF = .command (.buildReq 0 0x00FF) ∧
    decode 0x400000FF = .command (.rspLoad 0 0xFF) ∧ decode 0x50FF0000 = .command (.parse 0xFF) := by
  decide

theorem test_encode_words :
    encode (.crcByte 0x01) = 0x20000001 ∧ encode (.buildReq 1 0x0018) = 0x30010018 ∧
    encode (.rspLoad 8 0xAE) = 0x480000AE ∧ encode (.parse 1) = 0x50010000 := by decide

theorem test_decodeTableWord :
    decodeTableWord 32 0x4800001F = some (.rspLoad 8 0x1F) ∧
    decodeTableWord 32 0x49000012 = none := by decide

theorem test_opTable_rows_disjoint :
    opTable.Pairwise (fun a b => a.match32 &&& b.mask ≠ b.match32 ∧
      b.match32 &&& a.mask ≠ a.match32) := by decide

/-! ### Pure functions (95_test_vectors.md 2.1, 2.3) -/

theorem test_crcStep_vectors :
    crcStep 0xFFFF 0x00 = 0x40BF ∧ crcStep 0xFFFF 0x04 = 0x83BE ∧ crcStep 0x0001 0x00 = 0xC0C1 ∧
    crcStep 0x1234 0x56 = 0xE993 := by decide +kernel

theorem test_crc16_check_value :
    crc16 [0x31, 0x32, 0x33, 0x34, 0x35, 0x36, 0x37, 0x38, 0x39] 9 = 0x4B37 := by decide +kernel

theorem test_crc16_running_prefix :
    crc16 [0x01, 0x04, 0x00, 0x00, 0x00, 0x02] 3 = 0xC022 ∧
    crc16 [0x01, 0x04, 0x00, 0x00, 0x00, 0x02] 6 = 0xCB71 := by decide +kernel

/-- R6: the frame lengths, and that the CRC span is what stands before the CRC. -/
theorem test_frame_lengths :
    (buildRequest 1 0x0018).toList.length = Config.reqLen ∧
    (requestHead 1 0x0018).length = Config.reqCrcSpan ∧
    frame230.toList.length = Config.rspLen ∧ (crcSpan frame230).length = Config.rspCrcSpan := by
  decide +kernel

/-! ### One step each (95_test_vectors.md 2.2 to 2.5, 3) -/

theorem test_crcInit_from_dirty :
    blockOf (exec .crcInit (setCrc 0x1234 (st .idle [] []))) =
      some (Block.reset 0x7FC00000) := by decide

theorem test_crcByte_repeat :
    (blockOf (exec (.crcByte 0x01) (setCrc 0x807E (st .idle [] [])))).map Block.crc =
      some 0xE0C1 := by decide +kernel

theorem test_crcByte_fixed_point :
    (blockOf (exec (.crcByte 0x00) (setCrc 0x0000 (st .idle [] [])))).map Block.crc =
      some 0x0000 := by decide +kernel

theorem test_buildReq_corner :
    (blockOf (exec (.buildReq 255 0xFFFF) (st .idle [] []))).map (fun b => (b.req, b.status)) =
      some (#v[0xFF, 0x04, 0xFF, 0xFF, 0x00, 0x02, 0x64, 0x31], 0x20) := by decide +kernel

theorem test_buildReq_byte_order :
    (blockOf (exec (.buildReq 2 0x1234) (st .idle [] []))).map Block.req =
      some #v[0x02, 0x04, 0x12, 0x34, 0x00, 0x02, 0x35, 0x4E] := by decide +kernel

theorem test_rspLoad_last_byte :
    (blockOf (exec (.rspLoad 8 0xAE) (st .idle [] []))).map (fun b => (b.rsp, b.status)) =
      some (#v[0, 0, 0, 0, 0, 0, 0, 0, 0xAE], 0x00) := by decide

theorem test_rspLoad_index_9 :
    (blockOf (exec (.rspLoad 9 0x12) (st .idle [] []))).map (fun b => (b.rsp, b.status)) =
      some (#v[0, 0, 0, 0, 0, 0, 0, 0, 0], 0x40) := by decide

theorem test_parse_ok :
    (blockOf (exec (.parse 1) (withRsp frame230 (st .idle [] [])))).map
      (fun b => (b.value, b.status)) = some (0x43660000, 0x10) := by decide +kernel

theorem test_parse_failures :
    (blockOf (exec (.parse 2) (withRsp frame230 (st .idle [] [])))).map
      (fun b => (b.value, b.status)) = some (0x7FC00000, 0x12) ∧
    (blockOf (exec (.parse 1) (withRsp frameSwapped (st .idle [] [])))).map
      (fun b => (b.value, b.status)) = some (0x7FC00000, 0x11) := by decide +kernel

/-- P5, step 2: an illegal word from reset. -/
theorem test_step_illegal_word :
    (blockOf (step (st .idle [] [.command 0x60000000]))).map Block.status = some 0x40 := by decide

/-- The word placed by `withFetchWord` is what the first step after reset runs. -/
theorem test_first_step_after_reset :
    (blockOf (step (State.reset.withFetchWord 32 0x4800001F))).map Block.rsp =
      some #v[0, 0, 0, 0, 0, 0, 0, 0, 0x1F] := by decide

/-- 2.7: the clamp at both ends. -/
theorem test_setTurnaround_clamps :
    (engineOf (step (st .idle [] [.call (.setTurnaroundMs 19)]))).map Engine.turnaroundMs =
      some 20 ∧
    (engineOf (step (st .idle [] [.call (.setTurnaroundMs 5001)]))).map Engine.turnaroundMs =
      some 5000 ∧
    (engineOf (step (st .idle [] [.call (.setTurnaroundMs 21)]))).map Engine.turnaroundMs =
      some 21 := by decide

/-- 2.7: the error counter wraps. -/
theorem test_errorCount_wraps :
    (recordExchange .timeout { (st .idle [] []).engine with errorCount := 0xFFFFFFFF }).errorCount =
      0 := by decide

/-! ### The assembler (R67, R68) -/

theorem test_assemble_rspLoad :
    Asm.assembleLine "RSP_LOAD 8, 0x1F".toList = some [.rspLoad 8 0x1F] := by decide

theorem test_assemble_does_not_fit :
    Asm.assembleLine "CRC_BYTE 256".toList = none ∧
    Asm.assembleLine "RSP_LOAD 9, 0".toList = none := by decide

theorem test_assemble_pseudo :
    Asm.assembleLine "CRC_BUF".toList = some [.crcInit] ∧
    Asm.assembleLine "DECODE 1, 1,4,4,0x41,0x48,0,0,0x6F,0xAE".toList =
      some (Asm.decodeFrame 1 frame12) := by decide

/-! ### Witnesses: for every statement with hypotheses, a state and operands that meet them -/

theorem block_at_reset_ok : (Block.reset 0x7FC00000).Ok 0x7FC00000 :=
  ⟨by decide, by decide, fun _ => ⟨by decide, rfl⟩, fun _ => rfl, fun _ => rfl,
    fun h => absurd h (by decide)⟩

theorem st_ok (p : Phase) (rx : List Byte) (ins : List Input)
    (h : ∀ ws, p ≠ .validating (.issue ws)) : (st p rx ins).Ok :=
  ⟨block_at_reset_ok,
    ⟨show 20 ≤ (100#16).toNat ∧ (100#16).toNat ≤ 5000 by decide,
      show 20 ≤ (20#16).toNat ∧ (20#16).toNat ≤ 5000 by decide,
      fun h => absurd h (by simp [st]), fun ws hw => absurd hw (h ws),
      fun _ _ h => absurd rfl h⟩,
    fun _ => rfl⟩

theorem witness_DecodeOfEncode : (Instr.rspLoad 8 0xFF).wellFormed = true := by decide

theorem witness_EncodeOfDecode : decode 0x4800001F = .command (.rspLoad 8 0x1F) := by decide

theorem witness_LegalExactlyByOpcodeMap :
    decode 0x50FF0000 = .command (.parse 0xFF) ∧ (Instr.parse 0xFF).row ∈ opTable := by decide

theorem witness_IllegalExactlyByReservedBits :
    decode 0x49000012 = .illegal .indexOutOfRange := by decide

/-- The largest operands that fit, and the next one up, for each field. -/
theorem witness_AssembledCommandsAreWellFormed :
    Asm.assemble "CRC_BYTE".toList [255] = some [.crcByte 0xFF] ∧
    Asm.assemble "CRC_BYTE".toList [256] = none ∧
    Asm.assemble "BUILD_REQ".toList [255, 65535] = some [.buildReq 0xFF 0xFFFF] ∧
    Asm.assemble "BUILD_REQ".toList [256, 0] = none ∧
    Asm.assemble "BUILD_REQ".toList [0, 65536] = none ∧
    Asm.assemble "RSP_LOAD".toList [8, 255] = some [.rspLoad 8 0xFF] ∧
    Asm.assemble "RSP_LOAD".toList [9, 0] = none ∧
    Asm.assemble "PARSE".toList [255] = some [.parse 0xFF] ∧
    Asm.assemble "PARSE".toList [256] = none := by decide

theorem witness_CrcSixteenIsTheFold :
    2 < ([1, 4, 0] : List Byte).length ∧
    ([1, 4, 0] : List Byte).take 2 = ([1, 4, 7] : List Byte).take 2 := by decide

theorem witness_CrcInitSetsTheSeed :
    field 0x10000001 28 4 = 0x1#4 ∧ field 0x10000001 0 28 ≠ 0#28 := by decide

theorem witness_CrcByteAdvancesTheAccumulator :
    field 0x20000100 28 4 = 0x2#4 ∧ field 0x20000100 8 20 ≠ 0#20 := by decide

theorem witness_StreamingGeneratorEqualsCrcSixteen :
    ∀ i ∈ [Instr.crcByte 0x01, .parse 1, .crcByte 0x04], i ≠ .crcInit := by decide

theorem witness_BuildReqWritesTheFrame :
    field 0x31010000 28 4 = 0x3#4 ∧ field 0x31010000 24 4 ≠ 0#4 := by decide

theorem witness_RspLoadWritesOneByte :
    8#4 ≤ 8#4 ∧ 9#4 ≤ 9#4 ∧ field 0x49000012 28 4 = 0x4#4 ∧ 9#4 ≤ field 0x49000012 24 4 := by decide

/-- The three cases of PARSE, and the two illegal neighbours. -/
theorem witness_ParseClassifiesTheFrame :
    headerOk (st .idle [] []).block.rsp 0 = false ∧
    (headerOk frameSwapped 1 = true ∧ crcOk frameSwapped = false) ∧
    (headerOk frame230 1 = true ∧ crcOk frame230 = true) ∧
    (field 0x51010000 28 4 = 0x5#4 ∧ field 0x51010000 24 4 ≠ 0#4) ∧
    (field 0x50010001 28 4 = 0x5#4 ∧ field 0x50010001 0 16 ≠ 0#16) := by decide +kernel

theorem witness_OneCorruptedDataByteIsCaught :
    (parseResponse 0x7FC00000 frame230 1).1 = verdictOk ∧ (0x44 : Byte) ≠ frame230[3] := by
  decide +kernel

theorem witness_OtherFunctionCodesAreWrongHeader : (st .idle [] []).block.rsp[1] ≠ 0x04#8 := by
  decide

theorem witness_ParseReadsOnlyTheFrame :
    ∃ s' t', exec (.parse 1) (st .idle [] []) = .next s' ∧
      exec (.parse 1) (setCrc 0 (st .idle [] [])) = .next t' ∧
      (st .idle [] []).block.rsp = (setCrc 0 (st .idle [] [])).block.rsp :=
  ⟨_, _, rfl, rfl, rfl⟩

theorem witness_CommandsLeaveTheRestUnchanged :
    (∃ t, exec .crcInit (st .idle [] []) = .next t) ∧
    (∃ t, exec (.buildReq 0 0) (st .idle [] []) = .next t) ∧
    (∃ t, exec (.rspLoad 8 1) (st .idle [] []) = .next t) ∧
    (∃ t, exec (.parse 0) (st .idle [] []) = .next t) :=
  ⟨⟨_, rfl⟩, ⟨_, rfl⟩, ⟨_, rfl⟩, ⟨_, rfl⟩⟩

theorem witness_CommandsAreIdempotentButCrcByte :
    (∀ d, Instr.parse 1 ≠ .crcByte d) ∧ ∃ t, exec (.parse 1) (st .idle [] []) = .next t :=
  ⟨by simp, _, rfl⟩

theorem witness_StepRunsTheDecodedCommand :
    (st .done [] []).engine.inFlight = false ∧
    (st .awaitingResponse [] []).engine.inFlight = true ∧
    (st .idle [] [.command 0x50010000]).inputs = .command 0x50010000 :: [] ∧
    decode (tableWord 32 0x50010000) = .command (.parse 1) := by decide

theorem witness_IllegalWordOnlySetsIll :
    (st .idle [] [.command 0]).inputs = .command 0 :: [] ∧
    (st .idle [] [.command 0]).engine.inFlight = false ∧ decode 0 = .illegal .unknownOp := by decide

theorem witness_CommandAfterIllegalWordRuns :
    (st .idle [] [.command 0x49000012, .command 0x20000001]).inputs =
      .command 0x49000012 :: .command 0x20000001 :: [] ∧
    (st .idle [] []).engine.inFlight = false ∧
    decode 0x49000012 = .illegal .indexOutOfRange ∧
    decode 0x20000001 = .command (.crcByte 1) := by decide

theorem witness_OnlyResetClearsTheFlags :
    (st .idle [] [.reset]).inputs = .reset :: [] ∧
    ∃ t, step (raiseIllegal (st .idle [] [.command 0x10000000])) = .next t ∧
      ill (raiseIllegal (st .idle [] [.command 0x10000000])).block.status = true :=
  ⟨rfl, _, rfl, by decide⟩

theorem witness_OnlyIllegalWordsSetIll :
    (st .idle [] [.command 0]).Ok ∧ ∃ t, step (st .idle [] [.command 0]) = .next t ∧
      ill t.block.status = true :=
  ⟨st_ok _ _ _ (by simp), _, rfl, by decide⟩

theorem witness_ReadPortsHaveNoSideEffect :
    (st .idle [] [.readPort (.rsp 8)]).inputs = .readPort (.rsp 8) :: [] := rfl

theorem witness_StatusReadsAsItsFields :
    (Block.reset 0x7FC00000).Ok 0x7FC00000 := block_at_reset_ok

theorem witness_StepKeepsTheInvariant :
    (st .idle [] [.command 0x50010000]).Ok ∧
      ∃ t, step (st .idle [] [.command 0x50010000]) = .next t :=
  ⟨st_ok _ _ _ (by simp), _, rfl⟩

theorem witness_InvariantStatesNeverFault : (st (.draining .start) [7] [.engine 3]).Ok :=
  st_ok _ _ _ (by simp)

theorem witness_OnlyInterleavingIsRefused :
    step (st .awaitingResponse [] [.command 0x10000000]) = .refused .interleavedStreams ∧
    step (st .awaitingResponse [] [.call (.readValue 0 none)]) =
      .refused .concurrentTransaction := ⟨rfl, rfl⟩

theorem witness_ParametersNeverChange : ∃ t, step (st .idle [] [.reset]) = .next t := ⟨_, rfl⟩

theorem witness_BlockChangesOnlyByCommandsAndReset :
    ∃ t, step (st .idle [] [.command 0x480000AE]) = .next t ∧
      t.block ≠ (st .idle [] [.command 0x480000AE]).block :=
  ⟨_, rfl, by decide⟩

theorem witness_SettersClamp :
    (st .idle [] [.call (.setTurnaroundMs 19)]).inputs = .call (.setTurnaroundMs 19) :: [] ∧
    (st .idle [] [.call (.setTimeoutMs 5001)]).inputs = .call (.setTimeoutMs 5001) :: [] :=
  ⟨rfl, rfl⟩

theorem witness_GettersReturnTheValueBeforeTheClear :
    (st .idle [] [.call (.getErrorCount true)]).inputs = .call (.getErrorCount true) :: [] ∧
    (st .idle [] [.call .clearErrorCode]).inputs = .call .clearErrorCode :: [] := ⟨rfl, rfl⟩

/-- Both kinds of step: one that ends an exchange, and a clear. -/
theorem witness_ExactlyOneCounterMovesPerExchange :
    (∃ t, step (st (.draining .start) [] [.engine 0]) = .next t ∧ t.engine.phase = .done) ∧
    ∃ t, step (st .idle [] [.call .clearErrorCount]) = .next t :=
  ⟨⟨_, rfl, rfl⟩, _, rfl⟩

/-- The start of the poll, and its three cases at their boundaries: nine bytes; eight bytes and the
first reading past the timeout; eight bytes and the last reading within it. -/
theorem witness_PollEndsByNineBytesOrByTime :
    (st (.transmitting .waitSent) [] [.engine 7]).chan.tx = [] ∧
    9 ≤ (st .awaitingResponse frame230.toList [.engine 0]).chan.rx.length ∧
    (st .awaitingResponse [1, 2, 3, 4, 5, 6, 7, 8] [.engine 101]).chan.rx.length < 9 ∧
    (st .awaitingResponse [] [.engine 101]).engine.turnaroundMs.toNat < 101 - 0 ∧
    100 - 0 ≤ (st .awaitingResponse [] [.engine 100]).engine.turnaroundMs.toNat := by decide

theorem witness_NoTimeoutBeforeTurnaround :
    ∃ t, step (st .awaitingResponse [] [.engine 101]) = .next t ∧
      t.engine.phase = .draining .start := ⟨_, rfl, rfl⟩

theorem witness_FewerThanNineBytesAreInsufficient :
    (st (.validating .read) [1, 2, 3, 4, 5, 6, 7, 8] [.engine 0]).chan.rx.length < 9 := by decide

theorem witness_RequestIsSentWhole :
    ∃ s : State, s.engine.inFlight = false ∧ s.chan.tx = [] ∧ s.params.tSettle ≤ 15 - 10 ∧
      s.inputs =
        [.call (.readValue 0x0018 (some 1)), .engine 0, .engine 0, .engine 10, .engine 15,
          .engine 15] ++ List.replicate 8 .sent ++ [.engine 20] ++ [] :=
  ⟨st .idle [] ([.call (.readValue 0x0018 (some 1)), .engine 0, .engine 0, .engine 10, .engine 15,
      .engine 15] ++ List.replicate 8 .sent ++ [.engine 20]),
    by decide, rfl, by decide, rfl⟩

theorem witness_ResponseIsParsedAndReturned :
    ∃ s : State, s.engine.phase = .awaitingResponse ∧ s.chan.rx = frame12.toList ∧
      s.inputs = (List.replicate 14 0).map .engine ++ [] :=
  ⟨st .awaitingResponse frame12.toList ((List.replicate 14 0).map .engine), rfl, rfl, rfl⟩

theorem witness_SilentLinkTimesOut :
    ∃ s : State, s.engine.phase = .awaitingResponse ∧ s.chan.rx = [] ∧
      s.engine.turnaroundMs.toNat < 101 - s.engine.txn.t0 ∧
      s.inputs = .engine 101 :: .engine 102 :: [] :=
  ⟨st .awaitingResponse [] [.engine 101, .engine 102], rfl, rfl, by decide, rfl⟩

theorem witness_DrainAdmitsBothOutcomes :
    (st (.draining .start) [7] []).Ok ∧ (st (.draining .start) [7] []).chan.rx ≠ [] ∧
    (st (.draining .start) [] [.engine 0]).chan.rx = [] :=
  ⟨st_ok _ _ _ (by simp), by decide, rfl⟩

theorem witness_DirectionIsReceiveOnReturn :
    (st (.draining .start) [] [.engine 0]).Ok ∧
      ∃ t, step (st (.draining .start) [] [.engine 0]) = .next t ∧ t.engine.inFlight = false :=
  ⟨st_ok _ _ _ (by simp), _, rfl, rfl⟩

/-- An override of a success, which returns the decoded value. -/
theorem witness_FailureReturnsTheSentinel :
    (st (.draining .collecting) [7] [.engine 20]).engine.txn.err = .noError ∧
    (st (.draining .collecting) [7] [.engine 20]).Ok ∧
      ∃ t, step (st (.draining .collecting) [7] [.engine 20]) = .next t ∧
        t.engine.phase = .done ∧ t.engine.errorCode = .timeout :=
  ⟨rfl, st_ok _ _ _ (by simp), _, rfl, rfl, rfl⟩

theorem witness_DefaultSlaveIdentifierIsOne :
    (st .idle [] [.call (.readValue 0x0018 none)]).engine.inFlight = false := rfl

theorem witness_LinksShareNothing :
    ∃ links', stepLink 1 [st .idle [] [], st .idle [] [.reset]] = .next links' := ⟨_, rfl⟩

theorem witness_ArrivalInTransmitDirectionIsLost :
    (setDirection .tx (st (.transmitting .waitSent) [] [.arrive 7])).engine.dir = .tx ∧
    (st .awaitingResponse [] [.arrive 7]).engine.dir = .rx := by decide

end Sys2Proof.Tests
end

/-! Rule R7's parameters are not written by any operation of the machine: one lemma per layer, from a
single command up to a whole step. -/

namespace Sys2Proof.Machine

theorem exec_keeps_params {i : Instr} {s t : State} (h : exec i s = .next t) :
    t.params = s.params := by
  obtain ⟨-, rfl⟩ | ⟨d, -, rfl⟩ | ⟨sid, reg, -, rfl⟩ | ⟨idx, d, hi, -, rfl⟩ |
    ⟨idx, d, hi, -, rfl⟩ | ⟨sid, -, rfl⟩ := exec_cases h
  · exact setCrc_params _ s
  · exact setCrc_params _ s
  · exact setRequest_params _ s
  · exact setRspByte_params _ d s
  · exact raiseIllegal_params s
  · exact setResult_params _ _ s

theorem issueWord_keeps_params {w : Word32} {s t : State} (h : issueWord w s = .next t) :
    t.params = s.params := by
  obtain ⟨i, -, hi⟩ | ⟨why, -, rfl⟩ := issueWord_cases h
  · exact exec_keeps_params hi
  · exact raiseIllegal_params s

/-- The Engine issues commands of its own in two moves; every other move only writes host state. -/
theorem EngineMove.keeps_params {now : Nat} {s t : State} (h : EngineMove now s t) :
    t.params = s.params := by
  cases h with
  | build u _ hu => exact (goTo_params _ u).trans (issueWord_keeps_params hu)
  | issue w ws u _ hu => exact (goTo_params _ u).trans (issueWord_keeps_params hu)
  | _ => simp

theorem hostCall_keeps_params {c : HostCall} {s t : State} (h : hostCall c s = .next t) :
    t.params = s.params := by
  obtain ⟨reg, sid, -, -, rfl⟩ | ⟨-, code, succ, errs, turn, drain, r, rfl, -⟩ := hostCall_cases h
  · exact startTransaction_params reg _ s
  · rfl

/-- A client's command word that takes effect is issued, and no transaction was in flight (R170). -/
theorem takeInput_command_eq_next {w : Word32} {s t : State}
    (h : takeInput (.command w) s = .next t) :
    s.engine.inFlight = false ∧ issueWord w s = .next t := by
  cases hf : s.engine.inFlight <;> simp [takeInput, hf] at h
  exact ⟨rfl, h⟩

theorem takeInput_keeps_params {i : Input} {s t : State} (h : takeInput i s = .next t) :
    t.params = s.params := by
  cases i with
  | command w => exact issueWord_keeps_params (takeInput_command_eq_next h).2
  | reset => cases h; exact resetBlock_params s
  | readPort p => cases h; rfl
  | call c => exact hostCall_keeps_params h
  | engine now => exact (engineStep_cases h).keeps_params
  | arrive b => cases h; exact arriveByte_params b s
  | lose => cases h; exact loseByte_params s
  | sent => cases h; exact sendByte_params s

theorem step_keeps_params {s t : State} (h : step s = .next t) : t.params = s.params := by
  obtain ⟨-, hst⟩ | ⟨i, rest, -, hi⟩ := step_cases h
  · cases hst; rfl
  · exact takeInput_keeps_params (s := { s with inputs := rest }) hi

/-- Settles O37: a step takes at most one input, and no input writes the parameters of R7. -/
theorem parametersNeverChange : Obligations.ParametersNeverChange := fun _ _ => step_keeps_params

end Sys2Proof.Machine

/-! The decoder and the encoder on well-formed commands (30_encoding.md rules R62 to R65). -/

namespace Sys2Proof

/-- A word decodes only to commands: `RSP_LOAD`'s index condition is checked (R63, R65). -/
theorem wellFormed_of_decode {w : Word32} {i : Instr} (h : decode w = .command i) :
    i.wellFormed = true := by
  simp only [decode] at h
  split_ifs at h with _ _ _ _ _ _ _ _ hidx <;> cases h
  · rfl
  · rfl
  · rfl
  · exact decide_eq_true hidx
  · rfl

theorem decode_encode {i : Instr} (h : i.wellFormed = true) : decode (encode i) = .command i := by
  cases i with
  | crcInit => rfl
  | crcByte d =>
    have e := encode_crcByte_toNat d
    have hop : field (encode (.crcByte d)) 28 4 = 0x2#4 := by rw [field_eq_iff, e]; simp; omega
    have hz : field (encode (.crcByte d)) 8 20 = 0#20 := by rw [field_eq_iff, e]; simp; omega
    have hd : field (encode (.crcByte d)) 0 8 = d := by rw [field_eq_iff, e]; omega
    simp [decode, hop, hz, hd]
  | buildReq sid reg =>
    have e := encode_buildReq_toNat sid reg
    have hop : field (encode (.buildReq sid reg)) 28 4 = 0x3#4 := by
      rw [field_eq_iff, e]; simp; omega
    have hz : field (encode (.buildReq sid reg)) 24 4 = 0#4 := by rw [field_eq_iff, e]; simp; omega
    have hs : field (encode (.buildReq sid reg)) 16 8 = sid := by rw [field_eq_iff, e]; omega
    have hr : field (encode (.buildReq sid reg)) 0 16 = reg := by rw [field_eq_iff, e]; omega
    simp [decode, hop, hz, hs, hr]
  | rspLoad idx d =>
    have e := encode_rspLoad_toNat idx d
    have hop : field (encode (.rspLoad idx d)) 28 4 = 0x4#4 := by rw [field_eq_iff, e]; simp; omega
    have hz : field (encode (.rspLoad idx d)) 8 16 = 0#16 := by rw [field_eq_iff, e]; simp; omega
    have hi : field (encode (.rspLoad idx d)) 24 4 = idx := by rw [field_eq_iff, e]; omega
    have hd : field (encode (.rspLoad idx d)) 0 8 = d := by rw [field_eq_iff, e]; omega
    have hle : idx ≤ 8#4 := of_decide_eq_true h
    simp [decode, hop, hz, hi, hd, hle]
  | parse sid =>
    have e := encode_parse_toNat sid
    have hop : field (encode (.parse sid)) 28 4 = 0x5#4 := by rw [field_eq_iff, e]; simp; omega
    have hz : field (encode (.parse sid)) 24 4 = 0#4 := by rw [field_eq_iff, e]; simp; omega
    have hz' : field (encode (.parse sid)) 0 16 = 0#16 := by rw [field_eq_iff, e]; simp
    have hs : field (encode (.parse sid)) 16 8 = sid := by rw [field_eq_iff, e]; omega
    simp [decode, hop, hz, hz', hs]

end Sys2Proof

namespace Sys2Proof.Machine

/-- What the Engine issues for a response of at most nine bytes are legal words (R175). -/
theorem parseWords_legal {b : List Byte} (hb : b.length ≤ 9) (sid : Byte) :
    ∀ w ∈ parseWords b sid, ∃ i, decode w = .command i := by
  intro w hw
  obtain hw | hw := List.mem_append.mp hw
  · obtain ⟨⟨d, k⟩, hmem, rfl⟩ := List.mem_map.mp hw
    have hlt : k < b.length := (List.mem_zipIdx' hmem).1
    refine ⟨_, decode_encode (decide_eq_true ?_)⟩
    have hk : (BitVec.ofNat 4 k).toNat = k := Nat.mod_eq_of_lt (by omega)
    simp only [BitVec.le_def, hk, BitVec.toNat_ofNat]; omega
  · obtain rfl := List.mem_singleton.mp hw
    exact ⟨_, decode_encode rfl⟩

/-! What a command leaves unchanged. -/

/-- Executing a command writes the block and nothing else of the state (10_state.md rule R20). -/
theorem exec_writes_only_block {i : Instr} {s t : State} (h : exec i s = .next t) :
    t.params = s.params ∧ t.engine = s.engine ∧ t.chan = s.chan ∧ t.inputs = s.inputs ∧
      t.reply = s.reply := by
  obtain ⟨-, rfl⟩ | ⟨_, -, rfl⟩ | ⟨_, _, -, rfl⟩ | ⟨_, _, _, -, rfl⟩ | ⟨_, _, _, -, rfl⟩ |
    ⟨_, -, rfl⟩ := exec_cases h <;> exact ⟨rfl, rfl, rfl, rfl, rfl⟩

theorem issueWord_writes_only_block {w : Word32} {s t : State} (h : issueWord w s = .next t) :
    t.params = s.params ∧ t.engine = s.engine ∧ t.chan = s.chan ∧ t.inputs = s.inputs ∧
      t.reply = s.reply := by
  obtain ⟨i, -, hi⟩ | ⟨_, -, rfl⟩ := issueWord_cases h
  · exact exec_writes_only_block hi
  · exact ⟨rfl, rfl, rfl, rfl, rfl⟩

theorem issueWord_keeps_engine {w : Word32} {s t : State} (h : issueWord w s = .next t) :
    t.engine = s.engine := by
  obtain ⟨-, hengine, -⟩ := issueWord_writes_only_block h
  exact hengine

theorem issueWord_keeps_chan {w : Word32} {s t : State} (h : issueWord w s = .next t) :
    t.chan = s.chan := by
  obtain ⟨-, -, hchan, -⟩ := issueWord_writes_only_block h
  exact hchan

/-- A well-formed command raises no exception (R160). -/
theorem exec_keeps_ill {i : Instr} {s t : State} (h : exec i s = .next t)
    (hi : i.wellFormed = true) : ill t.block.status = ill s.block.status := by
  obtain ⟨-, rfl⟩ | ⟨_, -, rfl⟩ | ⟨_, _, -, rfl⟩ | ⟨_, _, _, -, rfl⟩ | ⟨idx, _, hidx, rfl, rfl⟩ |
    ⟨_, -, rfl⟩ := exec_cases h
  · simp
  · simp
  · simp
  · simp
  · have hle : idx.toNat ≤ 8 := of_decide_eq_true hi
    omega
  · simp

/-! The reserved bits 3 and 7 under the writes of `STATUS` (R25). -/

@[simp] theorem setReqv_reservedBits (st : BitVec 8) :
    (setReqv st)[3] = st[3] ∧ (setReqv st)[7] = st[7] := by
  simp [setReqv]

@[simp] theorem setIll_reservedBits (st : BitVec 8) :
    (setIll st)[3] = st[3] ∧ (setIll st)[7] = st[7] := by
  simp [setIll]

@[simp] theorem setVerdict_reservedBits (v : BitVec 3) (st : BitVec 8) :
    (setVerdict v st)[3] = st[3] ∧ (setVerdict v st)[7] = st[7] := by
  simp [setVerdict]

/-- Settles O22: each command's write names the elements it changes, and a well-formed command leaves
`ILL` alone. -/
theorem commandsLeaveTheRestUnchanged : Obligations.CommandsLeaveTheRestUnchanged := by
  intro i s t h
  refine ⟨exec_writes_only_block h, ?_⟩
  have hill := exec_keeps_ill h
  obtain ⟨rfl, rfl⟩ | ⟨d, rfl, rfl⟩ | ⟨sid, reg, rfl, rfl⟩ | ⟨idx, d, hidx, rfl, rfl⟩ |
    ⟨idx, d, hidx, rfl, rfl⟩ | ⟨sid, rfl, rfl⟩ := exec_cases h
  · simp
  · simp
  · simp
  · have hset : ∀ j : Fin 9, j.val ≠ idx.toNat →
        (s.block.rsp.set idx.toNat d hidx)[j] = s.block.rsp[j] := fun j hj =>
      Vector.getElem_set_ne hidx j.isLt hj.symm
    simpa using hset
  · simpa using hill
  · simp

end Sys2Proof.Machine

/-! The block's invariant under every write of the block. -/

namespace Sys2Proof.Machine

theorem Block.reset_ok (nan : Word32) : (Block.reset nan).Ok nan where
  reserved := by simp [reservedZero, Block.reset]
  verdictLegal := Nat.zero_le 2
  unparsed _ := ⟨rfl, rfl⟩
  failed _ := rfl
  unbuilt _ := rfl
  built h := absurd h (by simp [reqv, Block.reset])

section
variable {s : State} (ok : s.block.Ok s.params.nanSentinel)
include ok

theorem setCrc_keeps_blockOk (c : Word16) : (setCrc c s).block.Ok s.params.nanSentinel :=
  ⟨ok.reserved, ok.verdictLegal, ok.unparsed, ok.failed, ok.unbuilt, ok.built⟩

theorem setRspByte_keeps_blockOk (i : Fin 9) (d : Byte) :
    (setRspByte i d s).block.Ok s.params.nanSentinel :=
  ⟨ok.reserved, ok.verdictLegal, ok.unparsed, ok.failed, ok.unbuilt, ok.built⟩

theorem setRequest_keeps_blockOk (sid : Byte) (reg : Word16) :
    (setRequest (buildRequest sid reg) s).block.Ok s.params.nanSentinel where
  reserved := by simpa using ok.reserved
  verdictLegal := by simpa using ok.verdictLegal
  unparsed := by simpa using ok.unparsed
  failed := by simpa using ok.failed
  unbuilt := by simp
  built _ := ⟨sid, reg, rfl⟩

theorem raiseIllegal_keeps_blockOk : (raiseIllegal s).block.Ok s.params.nanSentinel where
  reserved := by simpa using ok.reserved
  verdictLegal := by simpa using ok.verdictLegal
  unparsed := by simpa using ok.unparsed
  failed := by simpa using ok.failed
  unbuilt := by simpa using ok.unbuilt
  built := by simpa using ok.built

/-- A result keeps the invariant when its verdict is legal and a failure carries the sentinel. -/
theorem setResult_keeps_blockOk {v : BitVec 3} {x : Word32} (hv : v.toNat ≤ 2)
    (hx : v ≠ verdictOk → x = s.params.nanSentinel) :
    (setResult v x s).block.Ok s.params.nanSentinel where
  reserved := by simpa using ok.reserved
  verdictLegal := by simpa using hv
  unparsed := by simp
  failed := by simpa using hx
  unbuilt := by simpa using ok.unbuilt
  built := by simpa using ok.built

end

theorem exec_keeps_blockOk {i : Instr} {s t : State} (h : exec i s = .next t)
    (ok : s.block.Ok s.params.nanSentinel) : t.block.Ok t.params.nanSentinel := by
  obtain ⟨-, rfl⟩ | ⟨d, -, rfl⟩ | ⟨sid, reg, -, rfl⟩ | ⟨idx, d, hi, -, rfl⟩ |
    ⟨idx, d, hi, -, rfl⟩ | ⟨sid, -, rfl⟩ := exec_cases h
  · exact setCrc_keeps_blockOk ok _
  · exact setCrc_keeps_blockOk ok _
  · exact setRequest_keeps_blockOk ok sid reg
  · exact setRspByte_keeps_blockOk ok _ d
  · exact raiseIllegal_keeps_blockOk ok
  · exact setResult_keeps_blockOk ok (parseResponse_legal _ _ sid) (parseResponse_failed _ _ sid)

theorem issueWord_keeps_blockOk {w : Word32} {s t : State} (h : issueWord w s = .next t)
    (ok : s.block.Ok s.params.nanSentinel) : t.block.Ok t.params.nanSentinel := by
  obtain ⟨i, -, hi⟩ | ⟨_, -, rfl⟩ := issueWord_cases h
  · exact exec_keeps_blockOk hi ok
  · exact raiseIllegal_keeps_blockOk ok

/-! The invariant's clauses under one move of the Transaction Engine. -/

/-- Outside the send, the line is in receive direction (R178). -/
theorem Engine.Ok.dir_eq_rx {p : Params} {e : Engine} (ok : e.Ok p)
    (hp : ¬(e.phase = .transmitting .settle ∨ e.phase = .transmitting .write ∨
      e.phase = .transmitting .waitSent)) : e.dir = .rx := by
  cases hd : e.dir with
  | rx => rfl
  | tx => exact absurd (ok.direction hd).2 hp

/-- With no transaction in flight, the line is in receive direction (R178). -/
theorem Engine.Ok.dir_eq_rx_of_not_inFlight {p : Params} {e : Engine} (ok : e.Ok p)
    (hf : e.inFlight = false) : e.dir = .rx := by
  refine ok.dir_eq_rx ?_
  rintro (hp | hp | hp) <;> simp [Engine.inFlight, hp] at hf

section
variable {s : State} (hline : s.engine.dir = .tx → s.params.hasDirLine = true)
include hline

/-- Returning to receive leaves the line in receive direction: without a line it was there already
(R179). -/
theorem setDirection_rx_dir : (setDirection .rx s).engine.dir = .rx := by
  rw [setDirection_engine_dir]
  split
  · rfl
  · cases hd : s.engine.dir with
    | rx => rfl
    | tx => exact absurd (hline hd) ‹_›

theorem finishExchange_dir : (finishExchange s).engine.dir = .rx := by
  rw [finishExchange_engine_dir, ← setDirection_engine_dir]
  exact setDirection_rx_dir hline

end

theorem clampMs_bounds (v : Word16) : 20 ≤ (clampMs v).toNat ∧ (clampMs v).toNat ≤ 5000 := by
  unfold clampMs
  split
  · decide
  · split
    · decide
    · simp_all [BitVec.lt_def, Config.tMin, Config.tMax]

namespace EngineMove

variable {now : Nat} {s t : State}

theorem keeps_blockOk (hm : EngineMove now s t) (ok : s.block.Ok s.params.nanSentinel) :
    t.block.Ok t.params.nanSentinel := by
  cases hm with
  | build u _ hu => simpa using issueWord_keeps_blockOk hu ok
  | issue w ws u _ hu => simpa using issueWord_keeps_blockOk hu ok
  | _ => simpa using ok

theorem keeps_timeouts (hm : EngineMove now s t) :
    t.engine.turnaroundMs = s.engine.turnaroundMs ∧ t.engine.timeoutMs = s.engine.timeoutMs := by
  cases hm with
  | build u _ hu => simp [issueWord_keeps_engine hu]
  | issue w ws u _ hu => simp [issueWord_keeps_engine hu]
  | _ => simp

theorem keeps_sentAll (hm : EngineMove now s t)
    (ok : s.engine.phase ≠ .transmitting .waitSent → s.chan.tx = [])
    (hp : t.engine.phase ≠ .transmitting .waitSent) : t.chan.tx = [] := by
  cases hm with
  | build u h hu => simp [issueWord_keeps_chan hu, ok, h]
  | issue w ws u h hu => simp [issueWord_keeps_chan hu, ok, h]
  | write h => exact absurd rfl hp
  | sentAll h ht => simpa using ht
  | sending h ht => exact absurd h hp
  | rest | settling | polling => exact ok hp
  | verdict _ h => simp [ok, h]
  | _ h => simp [ok, h]

theorem keeps_direction (hm : EngineMove now s t) (ok : s.engine.Ok s.params)
    (hd : t.engine.dir = .tx) : s.params.hasDirLine = true ∧
      (t.engine.phase = .transmitting .settle ∨ t.engine.phase = .transmitting .write ∨
        t.engine.phase = .transmitting .waitSent) := by
  have hline : s.engine.dir = .tx → s.params.hasDirLine = true := fun h => (ok.direction h).1
  cases hm with
  | rest | settling | sending | polling | drainDiscard => exact ok.direction hd
  | assertTx h =>
    refine ⟨?_, .inl rfl⟩
    by_contra hno
    exact hno (hline (by simpa [hno] using hd))
  | settled h ht => exact ⟨hline hd, .inr (.inl rfl)⟩
  | write h => exact ⟨hline hd, .inr (.inr rfl)⟩
  | sentAll => exact absurd (hd.symm.trans (setDirection_rx_dir hline)) nofun
  | drainIdle | drainQuiet | drainOverride =>
    exact absurd (hd.symm.trans (finishExchange_dir hline)) nofun
  | build u h hu => simp [issueWord_keeps_engine hu, ok.dir_eq_rx, h] at hd
  | issue w ws u h hu => simp [issueWord_keeps_engine hu, ok.dir_eq_rx, h] at hd
  | verdict _ h => simp [ok.dir_eq_rx, h] at hd
  | _ h => simp [ok.dir_eq_rx, h] at hd

theorem keeps_commands (hm : EngineMove now s t) (ok : s.engine.Ok s.params) :
    ∀ ws, t.engine.phase = .validating (.issue ws) → ∀ w ∈ ws, ∃ i, decode w = .command i := by
  intro ws hp
  cases hm with
  | rest | settling | sending | polling | drainDiscard => exact ok.commands ws hp
  | readNine h hn =>
    simp only [goTo_engine_phase, Phase.validating.injEq, ValStep.issue.injEq] at hp
    subst hp
    exact parseWords_legal (List.length_take_le 9 s.chan.rx) s.engine.txn.sid
  | issue w ws' u h hu =>
    simp only [goTo_engine_phase, Phase.validating.injEq, ValStep.issue.injEq] at hp
    subst hp
    exact fun w' hw' => ok.commands _ h w' (List.mem_cons_of_mem w hw')
  | _ => simp at hp

theorem keeps_outcome (hm : EngineMove now s t) (ok : s.Ok) :
    ∀ d, t.engine.phase = .draining d → t.engine.txn.err ≠ .noError →
      t.engine.txn.value = s.params.nanSentinel := by
  intro d hp
  cases hm with
  | rest | settling | sending | polling | drainDiscard => exact ok.engine.outcome d hp
  | timeout | insufficient => exact fun _ => rfl
  | verdict e h he =>
    intro herr
    refine ok.block.failed fun hv => herr ?_
    rw [hv] at he
    exact (Option.some.inj he).symm
  | drainStart h hr => exact ok.engine.outcome _ h
  | _ => simp at hp

theorem keeps_ok (hm : EngineMove now s t) (ok : s.Ok) : t.Ok := by
  have hparams := hm.keeps_params
  obtain ⟨hturn, hdrain⟩ := hm.keeps_timeouts
  exact
    { block := hm.keeps_blockOk ok.block
      engine :=
        { turnaround := hturn ▸ ok.engine.turnaround
          timeout := hdrain ▸ ok.engine.timeout
          direction := hparams ▸ hm.keeps_direction ok.engine
          commands := hm.keeps_commands ok.engine
          outcome := hparams ▸ hm.keeps_outcome ok }
      sentAll := hm.keeps_sentAll ok.sentAll }

end EngineMove

/-! The invariant under each input. -/

theorem issueWord_keeps_ok {w : Word32} {s t : State} (h : issueWord w s = .next t) (ok : s.Ok) :
    t.Ok := by
  obtain ⟨hparams, hengine, hchan, -⟩ := issueWord_writes_only_block h
  exact
    { block := issueWord_keeps_blockOk h ok.block
      engine := by rw [hparams, hengine]; exact ok.engine
      sentAll := by rw [hengine, hchan]; exact ok.sentAll }

theorem startTransaction_keeps_ok {s : State} (ok : s.Ok) (hf : s.engine.inFlight = false)
    (reg : Word16) (sid : Byte) : (startTransaction reg sid s).Ok where
  block := ok.block
  engine :=
    { turnaround := ok.engine.turnaround
      timeout := ok.engine.timeout
      direction := by simp [ok.engine.dir_eq_rx_of_not_inFlight hf]
      commands := by simp
      outcome := by simp }
  sentAll _ := ok.sentAll fun hp => by simp [Engine.inFlight, hp] at hf

theorem hostCall_keeps_ok {c : HostCall} {s t : State} (h : hostCall c s = .next t) (ok : s.Ok) :
    t.Ok := by
  obtain ⟨reg, sid, -, hf, rfl⟩ | ⟨-, code, succ, errs, turn, drain, r, rfl, -, -, hturn, hdrain⟩ :=
    hostCall_cases h
  · exact startTransaction_keeps_ok ok hf reg _
  · refine ⟨ok.block, ⟨?_, ?_, ok.engine.direction, ok.engine.commands, ok.engine.outcome⟩,
      ok.sentAll⟩
    · obtain rfl | ⟨v, rfl⟩ := hturn
      · exact ok.engine.turnaround
      · exact clampMs_bounds v
    · obtain rfl | ⟨v, rfl⟩ := hdrain
      · exact ok.engine.timeout
      · exact clampMs_bounds v

/-- The transport sends only what is unsent, so an empty queue stays empty. -/
theorem sendByte_of_tx_nil {s : State} (h : s.chan.tx = []) : sendByte s = s := by
  simp only [sendByte, h]

theorem takeInput_keeps_ok {i : Input} {s t : State} (h : takeInput i s = .next t) (ok : s.Ok) :
    t.Ok := by
  cases i with
  | command w => exact issueWord_keeps_ok (takeInput_command_eq_next h).2 ok
  | reset => cases h; exact ⟨Block.reset_ok _, ok.engine, ok.sentAll⟩
  | readPort p => cases h; exact ⟨ok.block, ok.engine, ok.sentAll⟩
  | call c => exact hostCall_keeps_ok h ok
  | engine now => exact (engineStep_cases h).keeps_ok ok
  | arrive b =>
    cases h
    exact ⟨by simpa using ok.block, by simpa using ok.engine, by simpa using ok.sentAll⟩
  | lose => cases h; exact ⟨ok.block, ok.engine, ok.sentAll⟩
  | sent =>
    cases h
    refine ⟨by simpa using ok.block, by simpa using ok.engine, fun hp => ?_⟩
    have htx : s.chan.tx = [] := ok.sentAll (by simpa using hp)
    rw [sendByte_of_tx_nil htx, htx]

/-- Settles O34: a step takes at most one input, and every input keeps the invariant; for an engine
step, each clause is kept by each of the Engine's moves. -/
theorem stepKeepsTheInvariant : Obligations.StepKeepsTheInvariant := by
  intro s t ok h
  obtain ⟨-, hst⟩ | ⟨i, rest, -, hi⟩ := step_cases h
  · cases hst; exact ok
  · exact takeInput_keeps_ok hi ⟨ok.block, ok.engine, ok.sentAll⟩

end Sys2Proof.Machine

/-! Which steps write the block, and which set `ILL`. -/

namespace Sys2Proof.Machine

/-- The Transaction Engine changes the block only where it issues a command (R173 step 2, R175). -/
theorem EngineMove.changes_block {now : Nat} {s t : State} (hm : EngineMove now s t)
    (hne : t.block ≠ s.block) : s.engine.phase = .transmitting .build ∨
      ∃ w ws, s.engine.phase = .validating (.issue (w :: ws)) := by
  cases hm with
  | build u h hu => exact .inl h
  | issue w ws u h hu => exact .inr ⟨w, ws, h⟩
  | _ => simp at hne

theorem hostCall_keeps_block {c : HostCall} {s t : State} (h : hostCall c s = .next t) :
    t.block = s.block := by
  obtain ⟨reg, sid, -, -, rfl⟩ | ⟨-, code, succ, errs, turn, drain, r, rfl, -⟩ := hostCall_cases h
  · exact startTransaction_block reg _ s
  · rfl

theorem takeInput_changes_block {i : Input} {s t : State} (h : takeInput i s = .next t)
    (hne : t.block ≠ s.block) : (∃ w, i = .command w) ∨ i = .reset ∨
      (∃ now, i = .engine now ∧ (s.engine.phase = .transmitting .build ∨
        ∃ w ws, s.engine.phase = .validating (.issue (w :: ws)))) := by
  cases i with
  | command w => exact .inl ⟨w, rfl⟩
  | reset => exact .inr (.inl rfl)
  | engine now => exact .inr (.inr ⟨now, rfl, (engineStep_cases h).changes_block hne⟩)
  | call c => exact absurd (hostCall_keeps_block h) hne
  | readPort p => cases h; exact absurd rfl hne
  | arrive b => cases h; exact absurd (arriveByte_block b s) hne
  | lose => cases h; exact absurd (loseByte_block s) hne
  | sent => cases h; exact absurd (sendByte_block s) hne

/-- Settles O38: of the inputs, only a command word, the reset event and an engine step that issues a
command write the block. -/
theorem blockChangesOnlyByCommandsAndReset : Obligations.BlockChangesOnlyByCommandsAndReset := by
  intro s t h hne
  obtain ⟨-, hst⟩ | ⟨i, rest, hin, hi⟩ := step_cases h
  · cases hst; exact absurd rfl hne
  · exact ⟨i, rest, hin, takeInput_changes_block (s := { s with inputs := rest }) hi hne⟩

/-- A legal word raises no exception (R160). -/
theorem issueWord_keeps_ill {w : Word32} {i : Instr} {s t : State} (hw : decode w = .command i)
    (h : issueWord w s = .next t) : ill t.block.status = ill s.block.status := by
  simp only [issueWord, hw] at h
  exact exec_keeps_ill h (wellFormed_of_decode hw)

/-- The Transaction Engine issues only legal words (R173, R175), so it never changes `ILL`. -/
theorem EngineMove.keeps_ill {now : Nat} {s t : State} (hm : EngineMove now s t)
    (ok : s.engine.Ok s.params) : ill t.block.status = ill s.block.status := by
  cases hm with
  | build u h hu => simpa using issueWord_keeps_ill (decode_encode rfl) hu
  | issue w ws u h hu =>
    obtain ⟨i, hw⟩ := ok.commands _ h w List.mem_cons_self
    simpa using issueWord_keeps_ill hw hu
  | _ => simp

theorem takeInput_sets_ill {i : Input} {s t : State} (h : takeInput i s = .next t) (ok : s.Ok)
    (hill : ill t.block.status = true) : ill s.block.status = true ∨
      ∃ w why, i = .command w ∧ decode w = .illegal why := by
  cases i with
  | command w =>
    cases hw : decode w with
    | command i => exact .inl (issueWord_keeps_ill hw (takeInput_command_eq_next h).2 ▸ hill)
    | illegal why => exact .inr ⟨w, why, rfl, hw⟩
  | reset => cases h; simp [ill, Block.reset] at hill
  | engine now => exact .inl ((engineStep_cases h).keeps_ill ok.engine ▸ hill)
  | call c => exact .inl (hostCall_keeps_block h ▸ hill)
  | readPort p => cases h; exact .inl hill
  | arrive b => cases h; exact .inl (arriveByte_block b s ▸ hill)
  | lose => cases h; exact .inl hill
  | sent => cases h; exact .inl (sendByte_block s ▸ hill)

/-- Settles O28: only a client's word can be illegal, since the invariant keeps the Engine's words
legal. -/
theorem onlyIllegalWordsSetIll : Obligations.OnlyIllegalWordsSetIll := by
  intro s t ok h hill
  obtain ⟨-, hst⟩ | ⟨i, rest, hin, hi⟩ := step_cases h
  · cases hst; exact .inl hill
  · obtain hold | ⟨w, why, rfl, hw⟩ :=
      takeInput_sets_ill hi ⟨ok.block, ok.engine, ok.sentAll⟩ hill
    · exact .inl hold
    · exact .inr ⟨w, rest, why, hin, hw⟩

/-! The fields of `STATUS`. -/

/-- The layout of R25, bit 7 first. The widths are written as the sum that `++` makes. -/
theorem status_eq_fields {st : BitVec 8} (h : reservedZero st = true) :
    st = (0#1 ++ BitVec.ofBool (ill st) ++ BitVec.ofBool (reqv st) ++ BitVec.ofBool (valid st) ++
      0#1 ++ verdict st : BitVec (1 + 1 + 1 + 1 + 1 + 3)) := by
  obtain ⟨h3, h7⟩ : st[3] = false ∧ st[7] = false := by simpa [reservedZero] using h
  refine BitVec.eq_of_getLsbD_eq fun k hk => ?_
  have hk : k = 0 ∨ k = 1 ∨ k = 2 ∨ k = 3 ∨ k = 4 ∨ k = 5 ∨ k = 6 ∨ k = 7 := by omega
  simp only [BitVec.getLsbD_append]
  rcases hk with rfl | rfl | rfl | rfl | rfl | rfl | rfl | rfl <;>
    simp [verdict, valid, reqv, ill, h3, h7]

/-- Settles O32: the invariant's clause on the reserved bits, and the layout. -/
theorem statusReadsAsItsFields : Obligations.StatusReadsAsItsFields :=
  fun _ _ ok => status_eq_fields ok.reserved

/-! One command, and one port read, as a step. -/

theorem issueWord_of_decode {w : Word32} {i : Instr} (hw : decode w = .command i) (s : State) :
    issueWord w s = exec i s := by
  simp only [issueWord, hw]

theorem takeInput_command {s : State} (hf : s.engine.inFlight = false) (w : Word32) :
    takeInput (.command w) s = issueWord w s := by
  simp [takeInput, hf]

/-- Settles O24: the input is taken, decoded and executed; placing a word changes nothing else of a
state with no transaction in flight, and only the phase of one with a transaction in flight. -/
theorem stepRunsTheDecodedCommand : Obligations.StepRunsTheDecodedCommand := by
  refine ⟨fun s w rest i hin hf hw => ?_, fun s nbits n i hw => ?_⟩
  · rw [step_of_inputs hin, takeInput_command (s := { s with inputs := rest }) hf,
      issueWord_of_decode hw]
  · have hstep : step (s.withFetchWord nbits n) =
        exec i { placeCommand (tableWord nbits n) s with inputs := s.inputs } := by
      rw [State.withFetchWord, step_placeCommand, issueWord_of_decode hw]
    rw [hstep]
    exact ⟨fun hf => by simp [placeCommand, hf], fun hf => by simp [placeCommand, hf]⟩

/-- Settles O31: the read is one step over that input, whichever port it names. -/
theorem readPortsHaveNoSideEffect : Obligations.ReadPortsHaveNoSideEffect := by
  intro s p rest hin
  rw [step_of_inputs hin]
  cases p <;> rfl

/-! The state right after reset. -/

/-- Settles O29: each element's reset value; `REQ` and `RSP` byte by byte. -/
theorem resetGivesTheBlockItsValues : Obligations.ResetGivesTheBlockItsValues := by
  refine ⟨rfl, ?_, ?_, rfl, rfl, ?_, ?_, ?_, ?_⟩ <;> decide

/-- The range of R7's OPEN defaults, whatever the offset. -/
theorem defaultMs_bounds (offset : Nat) :
    20 ≤ (BitVec.ofNat 16 (20 + offset % 4981)).toNat ∧
      (BitVec.ofNat 16 (20 + offset % 4981)).toNat ≤ 5000 := by
  rw [BitVec.toNat_ofNat]
  omega

theorem Engine.initial_ok (p : Params) : (Engine.initial p.nanSentinel).Ok p where
  turnaround := defaultMs_bounds Config.turnOffset
  timeout := defaultMs_bounds Config.drainOffset
  direction := nofun
  commands := nofun
  outcome := nofun

/-- Settles O33: block and host meet their invariants at their initial values, and nothing is
unsent. -/
theorem invariantHoldsAtReset : Obligations.InvariantHoldsAtReset where
  block := Block.reset_ok _
  engine := Engine.initial_ok State.reset.params
  sentAll _ := rfl

/-! Hosts of several links. -/

/-- A step of link `k` that answers moves link `k` by its own step, or nothing where there is no such
link. -/
theorem stepLink_cases {k : Nat} {links links' : List State} (h : stepLink k links = .next links') :
    (links[k]? = none ∧ links' = links) ∨
    ∃ s t, links[k]? = some s ∧ step s = .next t ∧ links' = links.set k t := by
  unfold stepLink at h
  split at h
  · cases h; exact .inl ⟨‹_›, rfl⟩
  · split at h
    · cases h; exact .inr ⟨_, _, ‹_›, ‹_›, rfl⟩
    · cases h
    · cases h

/-- Settles O53: the list is written at `k` only, with the result of link `k`'s own step. -/
theorem linksShareNothing : Obligations.LinksShareNothing := by
  intro k links links' h
  obtain ⟨hnone, rfl⟩ | ⟨s, t, hs, ht, rfl⟩ := stepLink_cases h
  · exact ⟨rfl, fun _ _ => rfl, fun s hs => by simp [hnone] at hs⟩
  · obtain ⟨hlt, -⟩ := List.getElem?_eq_some_iff.mp hs
    refine ⟨List.length_set, fun j hj => List.getElem?_set_ne hj.symm, fun s' hs' => ?_⟩
    obtain rfl := Option.some.inj (hs.symm.trans hs')
    exact ⟨t, ht, List.getElem?_set_self hlt⟩

end Sys2Proof.Machine

/-! The CRC of a message that carries its own CRC (40_crc.md rules R100 and R101, 20_memory.md rule
R42). The idea: after the message the step on `c[7:0]` meets a low byte of zeros, so it only shifts,
and the step on `c[15:8]` meets zero. -/

namespace Sys2Proof.Machine

theorem crcShift_of_even {c : Word16} (h : c.getLsbD 0 = false) : crcShift c = c >>> 1 := by
  unfold crcShift
  rw [if_neg (ne_true_of_eq_false h)]

/-- Where the low `n` bits are 0, R100's loop never meets the polynomial. -/
theorem crcShifts_of_low_zero {n : Nat} {c : Word16} (h : ∀ i < n, c.getLsbD i = false) :
    crcShifts n c = c >>> n := by
  induction n generalizing c with
  | zero => simp [crcShifts]
  | succ n ih =>
    have hlow : ∀ i < n, (c >>> 1).getLsbD i = false := fun i hi => by
      rw [BitVec.getLsbD_ushiftRight]
      exact h (1 + i) (by omega)
    rw [crcShifts, crcShift_of_even (h 0 n.succ_pos), ih hlow, ← BitVec.shiftRight_add,
      Nat.add_comm 1 n]

theorem crcStep_loByte (c : Word16) : crcStep c (loByte c) = (hiByte c).setWidth 16 := by
  have hlow : ∀ i < 8, (c ^^^ (loByte c).setWidth 16).getLsbD i = false := fun i hi => by
    simp [loByte, hi, show i < 16 by omega]
  rw [crcStep, crcShifts_of_low_zero hlow]
  ext i hi
  by_cases h8 : i < 8
  · simp [loByte, hiByte, h8]
  · simpa [loByte, hiByte, h8] using BitVec.getLsbD_of_ge c (8 + i) (by omega)

theorem crcStep_self (b : Byte) : crcStep (b.setWidth 16) b = 0#16 := by
  rw [crcStep, BitVec.xor_self, crcShifts_of_low_zero (by simp), BitVec.zero_ushiftRight]

theorem crc16_append (s t : List Byte) :
    crc16 (s ++ t) (s.length + t.length) = t.foldl crcStep (crc16 s s.length) := by
  rw [crc16, crc16, List.take_length, ← List.length_append, List.take_length, List.foldl_append]

/-- The low byte of an accumulator leaves its high byte there, which the high byte cancels. -/
theorem crcStep_own_bytes (c : Word16) : crcStep (crcStep c (loByte c)) (hiByte c) = 0#16 := by
  rw [crcStep_loByte, crcStep_self]

/-- Settles O10: after the message the accumulator steps over its own two bytes. -/
theorem crcOfCheckedMessageIsZero : Obligations.CrcOfCheckedMessageIsZero := fun s =>
  (crc16_append s _).trans (crcStep_own_bytes (crc16 s s.length))

end Sys2Proof.Machine

/-! A write of the block repeated is that write (20_memory.md rule R47). -/

namespace Sys2Proof.Machine

@[simp] theorem setReqv_setReqv (st : BitVec 8) : setReqv (setReqv st) = setReqv st := by
  simp [setReqv, BitVec.or_assoc]

theorem setWidth_and_clearVerdict (v : BitVec 3) : v.setWidth 8 &&& 0xF8#8 = 0#8 := by
  revert v
  decide

/-- `setVerdict` clears the three bits of the verdict before it writes them (R127). -/
@[simp] theorem setVerdict_setVerdict (v w : BitVec 3) (st : BitVec 8) :
    setVerdict v (setVerdict w st) = setVerdict v st := by
  simp [setVerdict, BitVec.and_or_distrib_right, BitVec.and_assoc, BitVec.or_assoc,
    setWidth_and_clearVerdict]

@[simp] theorem setCrc_setCrc (c d : Word16) (s : State) : setCrc c (setCrc d s) = setCrc c s := rfl

@[simp] theorem setRequest_setRequest (f g : Vector Byte 8) (s : State) :
    setRequest f (setRequest g s) = setRequest f s := by
  simp [setRequest]

@[simp] theorem setRspByte_setRspByte (i : Fin 9) (b d : Byte) (s : State) :
    setRspByte i b (setRspByte i d s) = setRspByte i b s := by
  simp [setRspByte]

@[simp] theorem setResult_setResult (v w : BitVec 3) (x y : Word32) (s : State) :
    setResult v x (setResult w y s) = setResult v x s := by
  simp [setResult]

@[simp] theorem raiseIllegal_raiseIllegal (s : State) :
    raiseIllegal (raiseIllegal s) = raiseIllegal s := by
  simp [raiseIllegal]

theorem exec_idempotent {i : Instr} {s t : State} (hi : ∀ d, i ≠ .crcByte d)
    (h : exec i s = .next t) : exec i t = .next t := by
  obtain ⟨rfl, rfl⟩ | ⟨d, rfl, -⟩ | ⟨sid, reg, rfl, rfl⟩ | ⟨idx, d, hidx, rfl, rfl⟩ |
    ⟨idx, d, hidx, rfl, rfl⟩ | ⟨sid, rfl, rfl⟩ := exec_cases h
  · simp
  · exact absurd rfl (hi d)
  · simp
  · simp [exec_rspLoad_legal idx d _ hidx]
  · simp [exec_rspLoad_illegal idx d _ hidx]
  · simp

/-- A `CRC_BYTE` that changes nothing meets an accumulator that its step fixes (R104). -/
theorem crcStep_of_exec_crcByte_self {d : Byte} {s : State} (h : exec (.crcByte d) s = .next s) :
    crcStep s.block.crc d = s.block.crc := by
  rw [exec_crcByte] at h
  exact congrArg (fun t => t.block.crc) (Host.Outcome.next.inj h)

/-- The two bytes of `0x0101` are alike, so the byte `0x01` takes it to `0x0001` and then to 0. -/
theorem crcStep_twice_ne :
    crcStep (crcStep 0x0101#16 0x01#8) 0x01#8 ≠ crcStep 0x0101#16 0x01#8 := by
  have hfirst : crcStep 0x0101#16 0x01#8 = (0x01#8).setWidth 16 := crcStep_loByte 0x0101#16
  rw [hfirst, crcStep_self]
  decide

/-- Settles O23: what each other command writes depends on nothing it writes; the accumulator
`0x0101` moves on the first and on the second `CRC_BYTE 0x01`. -/
theorem commandsAreIdempotentButCrcByte : Obligations.CommandsAreIdempotentButCrcByte := by
  refine ⟨fun _ _ _ => exec_idempotent, 0x01#8, setCrc 0x0101#16 State.reset, _,
    exec_crcByte _ _, fun h => crcStep_twice_ne ?_⟩
  simpa only [setCrc_block_crc] using crcStep_of_exec_crcByte_self h

end Sys2Proof.Machine

/-! The decoder opcode by opcode, the encoder on what it decodes to, and the opcode map
(30_encoding.md rules R62 to R66). -/

namespace Sys2Proof

/-- The cases of R63's OP field: the five opcodes, and the unknown ones of R66. -/
theorem op_cases (op : BitVec 4) :
    op = 0x1#4 ∨ op = 0x2#4 ∨ op = 0x3#4 ∨ op = 0x4#4 ∨ op = 0x5#4 ∨
      (op = 0x0#4 ∨ 0x6#4 ≤ op) := by
  revert op
  decide

section
variable {w : Word32}

theorem decode_of_op_crcInit (h : field w 28 4 = 0x1#4) :
    decode w = if field w 0 28 = 0#28 then .command .crcInit else .illegal .reservedBits := by
  simp [decode, h]

theorem decode_of_op_crcByte (h : field w 28 4 = 0x2#4) :
    decode w = if field w 8 20 = 0#20 then .command (.crcByte (field w 0 8))
      else .illegal .reservedBits := by
  simp [decode, h]

theorem decode_of_op_buildReq (h : field w 28 4 = 0x3#4) :
    decode w = if field w 24 4 = 0#4 then .command (.buildReq (field w 16 8) (field w 0 16))
      else .illegal .reservedBits := by
  simp [decode, h]

theorem decode_of_op_rspLoad (h : field w 28 4 = 0x4#4) :
    decode w = if field w 8 16 = 0#16 then
        if field w 24 4 ≤ 8#4 then .command (.rspLoad (field w 24 4) (field w 0 8))
        else .illegal .indexOutOfRange
      else .illegal .reservedBits := by
  simp [decode, h]

theorem decode_of_op_parse (h : field w 28 4 = 0x5#4) :
    decode w = if field w 24 4 = 0#4 then
        if field w 0 16 = 0#16 then .command (.parse (field w 16 8)) else .illegal .reservedBits
      else .illegal .reservedBits := by
  simp [decode, h]

theorem decode_of_op_unknown (h : field w 28 4 = 0x0#4 ∨ 0x6#4 ≤ field w 28 4) :
    decode w = .illegal .unknownOp := by
  have hne : ∀ op : BitVec 4, op = 0x0#4 ∨ 0x6#4 ≤ op →
      op ≠ 0x1#4 ∧ op ≠ 0x2#4 ∧ op ≠ 0x3#4 ∧ op ≠ 0x4#4 ∧ op ≠ 0x5#4 := by decide
  obtain ⟨h1, h2, h3, h4, h5⟩ := hne _ h
  simp [decode, h1, h2, h3, h4, h5]

/-- Everything that a word can decode to, with the fields that make it so. -/
theorem decode_command_cases {i : Instr} (h : decode w = .command i) :
    (field w 28 4 = 0x1#4 ∧ field w 0 28 = 0#28 ∧ i = .crcInit) ∨
    (field w 28 4 = 0x2#4 ∧ field w 8 20 = 0#20 ∧ i = .crcByte (field w 0 8)) ∨
    (field w 28 4 = 0x3#4 ∧ field w 24 4 = 0#4 ∧
      i = .buildReq (field w 16 8) (field w 0 16)) ∨
    (field w 28 4 = 0x4#4 ∧ field w 8 16 = 0#16 ∧ i = .rspLoad (field w 24 4) (field w 0 8)) ∨
    (field w 28 4 = 0x5#4 ∧ field w 24 4 = 0#4 ∧ field w 0 16 = 0#16 ∧
      i = .parse (field w 16 8)) := by
  obtain hop | hop | hop | hop | hop | hop := op_cases (field w 28 4)
  · rw [decode_of_op_crcInit hop] at h
    split_ifs at h with hz
    cases h
    simp [hop, hz]
  · rw [decode_of_op_crcByte hop] at h
    split_ifs at h with hz
    cases h
    simp [hop, hz]
  · rw [decode_of_op_buildReq hop] at h
    split_ifs at h with hz
    cases h
    simp [hop, hz]
  · rw [decode_of_op_rspLoad hop] at h
    split_ifs at h with hz
    cases h
    simp [hop, hz]
  · rw [decode_of_op_parse hop] at h
    split_ifs at h with hz hz'
    cases h
    simp [hop, hz, hz']
  · simp [decode_of_op_unknown hop] at h

/-- No bit of a legal word is ignored (R66): its fields make up the whole word. -/
theorem encode_of_decode {i : Instr} (h : decode w = .command i) : encode i = w := by
  apply BitVec.eq_of_toNat_eq
  have hw := w.isLt
  obtain ⟨hop, hz, rfl⟩ | ⟨hop, hz, rfl⟩ | ⟨hop, hz, rfl⟩ | ⟨hop, hz, rfl⟩ | ⟨hop, hz, hz', rfl⟩ :=
    decode_command_cases h
  · rw [field_eq_iff, BitVec.toNat_ofNat] at hop hz
    rw [encode_crcInit_toNat]; omega
  · rw [field_eq_iff, BitVec.toNat_ofNat] at hop hz
    rw [encode_crcByte_toNat, field_toNat]; omega
  · rw [field_eq_iff, BitVec.toNat_ofNat] at hop hz
    rw [encode_buildReq_toNat, field_toNat, field_toNat]; omega
  · rw [field_eq_iff, BitVec.toNat_ofNat] at hop hz
    rw [encode_rspLoad_toNat, field_toNat, field_toNat]; omega
  · rw [field_eq_iff, BitVec.toNat_ofNat] at hop hz hz'
    rw [encode_parse_toNat, field_toNat]; omega

end

/-- Settles O1: each format's fields read back what the encoder put there. -/
theorem decodeOfEncode : Obligations.DecodeOfEncode := fun _ => decode_encode

/-- Settles O2: the fields of a legal word make up the whole word, and the decoder checks R63's
condition. -/
theorem encodeOfDecode : Obligations.EncodeOfDecode :=
  fun _ _ h => ⟨encode_of_decode h, wellFormed_of_decode h⟩

/-- Settles O5: each written word is the word of its command. -/
theorem writtenWordsDecode : Obligations.WrittenWordsDecode :=
  ⟨decode_encode (i := .crcInit) rfl, decode_encode (i := .crcByte 0x81) rfl,
    decode_encode (i := .buildReq 247 0x0100) rfl, decode_encode (i := .rspLoad 8 0xAE) rfl,
    decode_encode (i := .parse 1) rfl⟩

/-- Settles O4: opcode by opcode, the decoder's tests against R66's cases. -/
theorem illegalExactlyByReservedBits : Obligations.IllegalExactlyByReservedBits := by
  intro w
  refine ⟨?_, fun s why hw => by simp only [Machine.issueWord, hw]⟩
  obtain hop | hop | hop | hop | hop | hop := op_cases (field w 28 4)
  · by_cases hz : field w 0 28 = 0#28 <;> simp [decode_of_op_crcInit hop, hop, hz]
  · by_cases hz : field w 8 20 = 0#20 <;> simp [decode_of_op_crcByte hop, hop, hz]
  · by_cases hz : field w 24 4 = 0#4 <;> simp [decode_of_op_buildReq hop, hop, hz]
  · by_cases hz : field w 8 16 = 0#16
    · by_cases hidx : field w 24 4 ≤ 8#4
      · have hidx' : ¬9#4 ≤ field w 24 4 := by bv_omega
        simp [decode_of_op_rspLoad hop, hop, hz, hidx, hidx']
      · have hidx' : 9#4 ≤ field w 24 4 := by bv_omega
        simp [decode_of_op_rspLoad hop, hop, hz, hidx, hidx']
    · simp [decode_of_op_rspLoad hop, hop, hz]
  · by_cases hz : field w 24 4 = 0#4
    · by_cases hz' : field w 0 16 = 0#16 <;> simp [decode_of_op_parse hop, hop, hz, hz']
    · simp [decode_of_op_parse hop, hop, hz]
  · exact ⟨fun _ => .inl hop, fun _ => ⟨_, decode_of_op_unknown hop⟩⟩

/-! The opcode map (R63). -/

theorem mask_crcInit (w : Word32) :
    w &&& 0xFFFFFFFF#32 = 0x10000000#32 ↔ field w 28 4 = 0x1#4 ∧ field w 0 28 = 0#28 := by
  have hall : w &&& 0xFFFFFFFF#32 = w := BitVec.and_allOnes
  rw [hall, field_eq_iff, field_eq_iff, ← BitVec.toNat_inj]
  simp only [BitVec.toNat_ofNat]
  omega

/-- A word that hits a row of the map has the row's opcode, since every mask covers the OP field. -/
theorem op_of_hits {r : OpRow} (hr : r ∈ opTable) {w : Word32} (h : r.hits w = true) :
    field w 28 4 = field r.match32 28 4 := by
  have hmask : ∀ r ∈ opTable, field r.mask 28 4 = 0xF#4 := by decide
  have hfield : field (w &&& r.mask) 28 4 = field w 28 4 &&& field r.mask 28 4 :=
    BitVec.extractLsb'_and
  have hall : field w 28 4 &&& 0xF#4 = field w 28 4 := BitVec.and_allOnes
  rw [← beq_iff_eq.mp h, hfield, hmask r hr, hall]

/-- The rows of the map have different opcodes, so a word hits at most one. -/
theorem row_unique {r r' : OpRow} (hr : r ∈ opTable) (hr' : r' ∈ opTable) {w : Word32}
    (h : r.hits w = true) (h' : r'.hits w = true) : r = r' := by
  have hdistinct : ∀ r ∈ opTable, ∀ r' ∈ opTable,
      field r.match32 28 4 = field r'.match32 28 4 → r = r' := by decide
  exact hdistinct r hr r' hr' ((op_of_hits hr h).symm.trans (op_of_hits hr' h'))

theorem opcodeRow : ∀ i, Laws.OpcodeRow.Statement i
  | .crcInit => Laws.OpcodeRow.crcInit
  | .crcByte data => Laws.OpcodeRow.crcByte data
  | .buildReq sid reg => Laws.OpcodeRow.buildReq sid reg
  | .rspLoad idx data => Laws.OpcodeRow.rspLoad idx data
  | .parse sid => Laws.OpcodeRow.parse sid

/-- A legal word hits the row of its command. -/
theorem row_of_decode {w : Word32} {i : Instr} (h : decode w = .command i) :
    i.row.hits w = true ∧ i.row ∈ opTable :=
  encode_of_decode h ▸ opcodeRow i (wellFormed_of_decode h)

theorem legalByMap_of_decode {w : Word32} {i : Instr} (h : decode w = .command i) :
    legalByMap w = true := by
  obtain ⟨hhits, hmem⟩ := row_of_decode h
  refine List.any_eq_true.mpr ⟨i.row, hmem, ?_⟩
  rw [hhits, Bool.true_and]
  obtain ⟨-, -, rfl⟩ | ⟨-, -, rfl⟩ | ⟨-, -, rfl⟩ | ⟨-, -, rfl⟩ | ⟨-, -, -, rfl⟩ :=
    decode_command_cases h
  · rfl
  · rfl
  · rfl
  · exact wellFormed_of_decode h
  · rfl

theorem decode_of_legalByMap {w : Word32} (h : legalByMap w = true) :
    ∃ i, decode w = .command i := by
  simp only [legalByMap, opTable, OpRow.hits, List.any_cons, List.any_nil, Bool.or_eq_true,
    Bool.and_eq_true, beq_iff_eq, decide_eq_true_eq] at h
  obtain ⟨h, -⟩ | ⟨h, -⟩ | ⟨h, -⟩ | ⟨h, hidx⟩ | ⟨h, -⟩ | h := h
  · obtain ⟨hop, hz⟩ := (mask_crcInit w).mp h
    exact ⟨_, (decode_of_op_crcInit hop).trans (if_pos hz)⟩
  · obtain ⟨hop, hz⟩ := (mask_crcByte w).mp h
    exact ⟨_, (decode_of_op_crcByte hop).trans (if_pos hz)⟩
  · obtain ⟨hop, hz⟩ := (mask_buildReq w).mp h
    exact ⟨_, (decode_of_op_buildReq hop).trans (if_pos hz)⟩
  · obtain ⟨hop, hz⟩ := (mask_rspLoad w).mp h
    have hidx : field w 24 4 ≤ 8#4 := by simpa using hidx
    exact ⟨_, by rw [decode_of_op_rspLoad hop, if_pos hz, if_pos hidx]⟩
  · obtain ⟨hop, hz, hz'⟩ := (mask_parse w).mp h
    exact ⟨_, by rw [decode_of_op_parse hop, if_pos hz, if_pos hz']⟩
  · cases h

/-- Settles O3: a row's mask and condition test the fields that the decoder tests, and no two rows
share an opcode. -/
theorem legalExactlyByOpcodeMap : Obligations.LegalExactlyByOpcodeMap := by
  refine ⟨fun w => ⟨fun ⟨i, h⟩ => legalByMap_of_decode h, decode_of_legalByMap⟩,
    fun w i h r hr => ?_⟩
  obtain ⟨hhits, hmem⟩ := row_of_decode h
  exact ⟨fun hr' => row_unique hr hmem hr' hhits, fun heq => heq ▸ hhits⟩

end Sys2Proof

/-! What the assembler accepts for each mnemonic, and with which commands (30_encoding.md rules R67
and R68). -/

namespace Sys2Proof.Asm

section
variable {ns : List Nat} {is : List Instr}

theorem assembleCrcInit_eq_some : assembleCrcInit ns = some is ↔ ns = [] ∧ is = [.crcInit] := by
  cases ns <;> simp [assembleCrcInit, eq_comm (a := is)]

theorem assembleCrcByte_eq_some :
    assembleCrcByte ns = some is ↔ ∃ d : Byte, ns = [d.toNat] ∧ is = [.crcByte d] := by
  match ns with
  | [] => simp [assembleCrcByte]
  | [_] => simp [assembleCrcByte, byteOperand_eq_some, eq_comm (a := is)]
  | _ :: _ :: _ => simp [assembleCrcByte]

theorem assembleBuildReq_eq_some :
    assembleBuildReq ns = some is ↔
      ∃ (sid : Byte) (reg : Word16), ns = [sid.toNat, reg.toNat] ∧ is = [.buildReq sid reg] := by
  match ns with
  | [] => simp [assembleBuildReq]
  | [_] => simp [assembleBuildReq]
  | [_, _] =>
    simp [assembleBuildReq, Option.bind_eq_some_iff, byteOperand_eq_some, word16Operand_eq_some,
      and_assoc, eq_comm (a := is)]
  | _ :: _ :: _ :: _ => simp [assembleBuildReq]

theorem assembleRspLoad_eq_some :
    assembleRspLoad ns = some is ↔
      ∃ idx : BitVec 4, idx.toNat ≤ 8 ∧
        ∃ d : Byte, ns = [idx.toNat, d.toNat] ∧ is = [.rspLoad idx d] := by
  match ns with
  | [] => simp [assembleRspLoad]
  | [_] => simp [assembleRspLoad]
  | [_, _] =>
    simp [assembleRspLoad, Option.bind_eq_some_iff, byteOperand_eq_some, indexOperand_eq_some,
      and_assoc, and_left_comm, eq_comm (a := is)]
  | _ :: _ :: _ :: _ => simp [assembleRspLoad]

theorem assembleParse_eq_some :
    assembleParse ns = some is ↔ ∃ sid : Byte, ns = [sid.toNat] ∧ is = [.parse sid] := by
  match ns with
  | [] => simp [assembleParse]
  | [_] => simp [assembleParse, byteOperand_eq_some, eq_comm (a := is)]
  | _ :: _ :: _ => simp [assembleParse]

theorem assembleCrcBuf_eq_some :
    assembleCrcBuf ns = some is ↔
      ∃ bs : List Byte, ns = bs.map BitVec.toNat ∧ is = crcBuf bs := by
  simp [assembleCrcBuf, mapM_byteOperand_eq_some, eq_comm (a := is)]

theorem assembleLoadFrame_eq_some :
    assembleLoadFrame ns = some is ↔
      ∃ r : Vector Byte 9, ns = r.toList.map BitVec.toNat ∧ is = loadFrame r := by
  simp [assembleLoadFrame, frameOperands_eq_some, eq_comm (a := is)]

theorem assembleDecode_eq_some :
    assembleDecode ns = some is ↔
      ∃ (sid : Byte) (r : Vector Byte 9), ns = sid.toNat :: r.toList.map BitVec.toNat ∧
        is = decodeFrame sid r := by
  cases ns with
  | nil => simp [assembleDecode]
  | cons n ns =>
    simp [assembleDecode, Option.bind_eq_some_iff, byteOperand_eq_some, frameOperands_eq_some,
      and_assoc, eq_comm (a := is)]

/-- The mnemonics, each with its own assembler; nothing else assembles. -/
theorem assemble_cases {mnemonic : List Char} (h : assemble mnemonic ns = some is) :
    (mnemonic = "CRC_INIT".toList ∧ assembleCrcInit ns = some is) ∨
    (mnemonic = "CRC_BYTE".toList ∧ assembleCrcByte ns = some is) ∨
    (mnemonic = "BUILD_REQ".toList ∧ assembleBuildReq ns = some is) ∨
    (mnemonic = "RSP_LOAD".toList ∧ assembleRspLoad ns = some is) ∨
    (mnemonic = "PARSE".toList ∧ assembleParse ns = some is) ∨
    (mnemonic = "CRC_BUF".toList ∧ assembleCrcBuf ns = some is) ∨
    (mnemonic = "LOAD_FRAME".toList ∧ assembleLoadFrame ns = some is) ∨
    (mnemonic = "DECODE".toList ∧ assembleDecode ns = some is) := by
  unfold assemble at h
  split_ifs at h <;> simp_all only [true_and, true_or, or_true]

end

theorem crcBuf_wellFormed (bs : List Byte) : ∀ i ∈ crcBuf bs, i.wellFormed = true := by
  simp [crcBuf, Instr.wellFormed]

theorem loadFrame_wellFormed (r : Vector Byte 9) : ∀ i ∈ loadFrame r, i.wellFormed = true := by
  simp [loadFrame_eq, Instr.wellFormed]

theorem decodeFrame_wellFormed (sid : Byte) (r : Vector Byte 9) :
    ∀ i ∈ decodeFrame sid r, i.wellFormed = true := by
  simpa [decodeFrame, or_imp, forall_and, Instr.wellFormed] using loadFrame_wellFormed r

theorem assemble_mnemonic {mnemonic : List Char} {ns : List Nat} {is : List Instr}
    (h : assemble mnemonic ns = some is) :
    mnemonic ∈ ["CRC_INIT".toList, "CRC_BYTE".toList, "BUILD_REQ".toList, "RSP_LOAD".toList,
      "PARSE".toList, "CRC_BUF".toList, "LOAD_FRAME".toList, "DECODE".toList] := by
  obtain ⟨rfl, -⟩ | ⟨rfl, -⟩ | ⟨rfl, -⟩ | ⟨rfl, -⟩ | ⟨rfl, -⟩ | ⟨rfl, -⟩ | ⟨rfl, -⟩ | ⟨rfl, -⟩ :=
    assemble_cases h <;> decide

theorem assemble_wellFormed {mnemonic : List Char} {ns : List Nat} {is : List Instr}
    (h : assemble mnemonic ns = some is) : ∀ i ∈ is, i.wellFormed = true := by
  obtain ⟨-, h⟩ | ⟨-, h⟩ | ⟨-, h⟩ | ⟨-, h⟩ | ⟨-, h⟩ | ⟨-, h⟩ | ⟨-, h⟩ | ⟨-, h⟩ := assemble_cases h
  · obtain ⟨-, rfl⟩ := assembleCrcInit_eq_some.mp h
    exact List.forall_mem_singleton.mpr rfl
  · obtain ⟨d, -, rfl⟩ := assembleCrcByte_eq_some.mp h
    exact List.forall_mem_singleton.mpr rfl
  · obtain ⟨sid, reg, -, rfl⟩ := assembleBuildReq_eq_some.mp h
    exact List.forall_mem_singleton.mpr rfl
  · obtain ⟨idx, hidx, d, -, rfl⟩ := assembleRspLoad_eq_some.mp h
    exact List.forall_mem_singleton.mpr (decide_eq_true hidx)
  · obtain ⟨sid, -, rfl⟩ := assembleParse_eq_some.mp h
    exact List.forall_mem_singleton.mpr rfl
  · obtain ⟨bs, -, rfl⟩ := assembleCrcBuf_eq_some.mp h
    exact crcBuf_wellFormed bs
  · obtain ⟨r, -, rfl⟩ := assembleLoadFrame_eq_some.mp h
    exact loadFrame_wellFormed r
  · obtain ⟨sid, r, -, rfl⟩ := assembleDecode_eq_some.mp h
    exact decodeFrame_wellFormed sid r

/-- Settles O6: mnemonic by mnemonic, the accepted operands are the values of the commands' fields;
the statement's bounds on those values are the fields' widths. -/
theorem assembledCommandsAreWellFormed : Obligations.AssembledCommandsAreWellFormed := by
  intro ns is
  refine ⟨assembleCrcInit_eq_some, assembleCrcByte_eq_some.trans ?_,
    assembleBuildReq_eq_some.trans ?_, assembleRspLoad_eq_some.trans ?_,
    assembleParse_eq_some.trans ?_, assembleCrcBuf_eq_some, ?_, ?_,
    fun _ h => ⟨assemble_mnemonic h, assemble_wellFormed h⟩⟩
  · constructor
    · rintro ⟨d, hns, his⟩
      exact ⟨_, hns, d.isLt, d, rfl, his⟩
    · rintro ⟨_, hns, -, d, rfl, his⟩
      exact ⟨d, hns, his⟩
  · constructor
    · rintro ⟨sid, reg, hns, his⟩
      exact ⟨_, _, hns, sid.isLt, reg.isLt, sid, reg, rfl, rfl, his⟩
    · rintro ⟨_, _, hns, -, -, sid, reg, rfl, rfl, his⟩
      exact ⟨sid, reg, hns, his⟩
  · constructor
    · rintro ⟨idx, hidx, d, hns, his⟩
      exact ⟨_, _, hns, hidx, d.isLt, idx, d, rfl, rfl, his⟩
    · rintro ⟨_, _, hns, hidx, -, idx, d, rfl, rfl, his⟩
      exact ⟨idx, hidx, d, hns, his⟩
  · constructor
    · rintro ⟨sid, hns, his⟩
      exact ⟨_, hns, sid.isLt, sid, rfl, his⟩
    · rintro ⟨_, hns, -, sid, rfl, his⟩
      exact ⟨sid, hns, his⟩
  · simp only [← loadFrame_eq]
    exact assembleLoadFrame_eq_some
  · simp only [← decodeFrame_eq]
    exact assembleDecode_eq_some

end Sys2Proof.Asm

/-! A response frame's own CRC, and the pseudo-instructions as runs (30_encoding.md rules R68 and
R71). -/

namespace Sys2Proof.Machine

/-- The two bytes of a word16 make it up (R8, R64). -/
@[simp] theorem word16Of_hiByte_loByte (c : Word16) : word16Of (hiByte c) (loByte c) = c :=
  (BitVec.extractLsb'_append_extractLsb'_eq_extractLsb' rfl).trans BitVec.extractLsb'_eq_self

theorem parseResponse_ok {nan : Word32} {r : Vector Byte 9} {sid : Byte}
    (hheader : headerOk r sid = true) (hcrc : crcOk r = true) :
    parseResponse nan r sid = (verdictOk, decodeFloat r) := by
  simp [parseResponse, hheader, hcrc]

/-- Settles O17: R71's frame passes the header check and, by its own CRC, the CRC check. -/
theorem responseOfValueParsesBack : Obligations.ResponseOfValueParsesBack := by
  intro nan sid d0 d1 d2 d3 c
  have hheader : headerOk #v[sid, 0x04#8, 0x04#8, d0, d1, d2, d3, loByte c, hiByte c] sid =
      true := by
    simp [headerOk, Config.fcReadInput, Config.dataBytes]
  have hcrc : crcOk #v[sid, 0x04#8, 0x04#8, d0, d1, d2, d3, loByte c, hiByte c] = true :=
    beq_iff_eq.mpr (word16Of_hiByte_loByte c).symm
  exact parseResponse_ok hheader hcrc

@[simp] theorem runInstrs_nil (s : State) : runInstrs [] s = .next s := rfl

@[simp] theorem runInstrs_cons (i : Instr) (is : List Instr) (s : State) :
    runInstrs (i :: is) s = andThen (exec i s) (runInstrs is) := rfl

theorem runInstrs_append (is js : List Instr) (s : State) :
    runInstrs (is ++ js) s = andThen (runInstrs is s) (runInstrs js) := by
  induction is generalizing s with
  | nil => simp
  | cons i is ih =>
    rw [List.cons_append, runInstrs_cons, runInstrs_cons]
    cases exec i s with
    | next u => simp [ih]
    | fault r => rfl
    | refused r => rfl

/-- `CRC_BYTE`s fold the step over the accumulator (R105). -/
theorem runInstrs_map_crcByte (bs : List Byte) (s : State) :
    runInstrs (bs.map .crcByte) s = .next (setCrc (bs.foldl crcStep s.block.crc) s) := by
  induction bs generalizing s with
  | nil => rfl
  | cons b bs ih => simp [ih]

theorem runInstrs_crcBuf (bs : List Byte) (s : State) :
    runInstrs (Asm.crcBuf bs) s = .next (setCrc (crc16 bs bs.length) s) := by
  simp [Asm.crcBuf, runInstrs_map_crcByte, crc16]

/-- A write of every position of a frame leaves nothing of the frame that was there. -/
theorem set_every_byte (q r : Vector Byte 9) :
    ((((((((q.set 0 r[0]).set 1 r[1]).set 2 r[2]).set 3 r[3]).set 4 r[4]).set 5 r[5]).set
      6 r[6]).set 7 r[7]).set 8 r[8] = r := by
  obtain ⟨⟨l⟩, hl⟩ := q
  obtain ⟨⟨l'⟩, hl'⟩ := r
  match l, hl, l', hl' with
  | [_, _, _, _, _, _, _, _, _], _, [_, _, _, _, _, _, _, _, _], _ => rfl

/-- `LOAD_FRAME` replaces the frame (R68). -/
theorem runInstrs_loadFrame (r : Vector Byte 9) (s : State) :
    runInstrs (Asm.loadFrame r) s = .next { s with block := { s.block with rsp := r } } := by
  rw [Asm.loadFrame_eq]
  simp [exec_rspLoad_legal, setRspByte, set_every_byte]

/-- Settles O21: each expansion run command by command. -/
theorem pseudoInstructionsDoWhatTheyName : Obligations.PseudoInstructionsDoWhatTheyName := by
  refine ⟨runInstrs_crcBuf, fun sid r s => ?_⟩
  rw [Asm.decodeFrame, runInstrs_append, runInstrs_loadFrame]
  rfl

end Sys2Proof.Machine

/-! The CRC step as R100's loop, its linearity, and the fold over a sequence (40_crc.md rules R100
to R102). -/

namespace Sys2Proof.Machine

theorem crcShifts_eq_iterate (n : Nat) (c : Word16) : crcShifts n c = crcShift^[n] c := by
  induction n generalizing c with
  | zero => rfl
  | succ n ih => rw [crcShifts, ih, Function.iterate_succ_apply]

/-- Settles O7: `crcShift` is one iteration of the loop, and a step makes eight. -/
theorem crcStepIsTheBitwiseLoop : Obligations.CrcStepIsTheBitwiseLoop :=
  fun c b => crcShifts_eq_iterate 8 (c ^^^ b.setWidth 16)

/-- The polynomial enters as often as the bits 0 of the two values differ. -/
theorem crcShift_xor (c d : Word16) : crcShift (c ^^^ d) = crcShift c ^^^ crcShift d := by
  unfold crcShift
  rw [BitVec.getLsbD_xor, BitVec.ushiftRight_xor_distrib]
  cases c.getLsbD 0 <;> cases d.getLsbD 0
  · simp
  · simp [BitVec.xor_assoc]
  · simp only [Bool.xor_false, if_true, Bool.false_eq_true, if_false]
    ac_rfl
  · have hcancel : c >>> 1 ^^^ Config.crcPoly ^^^ (d >>> 1 ^^^ Config.crcPoly) =
        c >>> 1 ^^^ d >>> 1 ^^^ (Config.crcPoly ^^^ Config.crcPoly) := by ac_rfl
    simp [hcancel]

theorem crcShifts_xor (n : Nat) (c d : Word16) :
    crcShifts n (c ^^^ d) = crcShifts n c ^^^ crcShifts n d := by
  induction n generalizing c d with
  | zero => rfl
  | succ n ih => simp only [crcShifts, crcShift_xor, ih]

/-- Settles O9: widening a byte, exclusive or and each iteration of the loop are linear. -/
theorem crcStepIsLinear : Obligations.CrcStepIsLinear := by
  intro c d a b
  have hin : c ^^^ d ^^^ (a ^^^ b).setWidth 16 =
      (c ^^^ a.setWidth 16) ^^^ (d ^^^ b.setWidth 16) := by
    rw [BitVec.setWidth_xor]
    ac_rfl
  rw [crcStep, hin, crcShifts_xor, crcStep, crcStep]

theorem crc16_zero (s : List Byte) : crc16 s 0 = Config.crcSeed := rfl

theorem crc16_succ {s : List Byte} {n : Nat} (h : n < s.length) :
    crc16 s (n + 1) = crcStep (crc16 s n) s[n] := by
  rw [crc16, List.take_succ_eq_append_getElem h, List.foldl_append]
  rfl

theorem crc16_congr {s t : List Byte} {n : Nat} (h : s.take n = t.take n) :
    crc16 s n = crc16 t n := by
  rw [crc16, h, crc16]

theorem crc16_length (s : List Byte) :
    crc16 s s.length = s.foldl crcStep Config.crcSeed := by
  rw [crc16, List.take_length]

/-- Settles O8: the fold's equations, and the bytes it reads. -/
theorem crcSixteenIsTheFold : Obligations.CrcSixteenIsTheFold :=
  ⟨crc16_zero, fun _ _ => crc16_succ, fun _ _ _ => crc16_congr⟩

/-- Settles O11: `CRC_INIT`'s word, its write, and R66's case for its opcode. -/
theorem crcInitSetsTheSeed : Obligations.CrcInitSetsTheSeed :=
  ⟨decode_encode (i := .crcInit) rfl, exec_crcInit,
    fun w hop hz => (illegalExactlyByReservedBits w).1.mpr (.inr (.inl ⟨hop, hz⟩))⟩

/-- R62's format B as the opcode's bits over the data byte's. -/
theorem encode_crcByte_eq_or (d : Byte) :
    encode (.crcByte d) = 0x20000000#32 ||| d.setWidth 32 := rfl

/-- The corner cases of R104. Where the byte cancels the accumulator's low byte nothing is fed back;
`0x80` alone is fed back once, in the last iteration. -/
theorem crcStep_corner_cases :
    crcStep 0x0000 0x00 = 0x0000#16 ∧ crcStep 0xFFFF 0xFF = 0x00FF#16 ∧
    crcStep 0x00FF 0xFF = 0x0000#16 ∧ crcStep 0x0000 0x80 = 0xA001#16 ∧
    crcStep 0x8000 0x00 = 0x0080#16 :=
  ⟨crcStep_self 0x00, crcStep_loByte 0xFFFF, crcStep_self 0xFF, by decide,
    crcStep_loByte 0x8000⟩

/-- R106's trace, and its byte once more. -/
theorem crcStep_trace :
    crcStep 0xFFFF 0x01 = 0x807E#16 ∧ crcStep 0x807E 0x01 ≠ 0x807E#16 := by decide

/-- Settles O12: `CRC_BYTE`'s word, its write, R66's case for its opcode, and R104's values. -/
theorem crcByteAdvancesTheAccumulator : Obligations.CrcByteAdvancesTheAccumulator := by
  obtain ⟨hzero, hfull, hlow, hhigh, htop⟩ := crcStep_corner_cases
  exact ⟨fun d => encode_crcByte_eq_or d ▸ decode_encode rfl, exec_crcByte,
    fun w hop hz => (illegalExactlyByReservedBits w).1.mpr (.inr (.inr (.inl ⟨hop, hz⟩))),
    hzero, hfull, hlow, hhigh, htop, crcStep_trace⟩

end Sys2Proof.Machine

/-! The streaming generator against the function (40_crc.md rule R105). -/

namespace Sys2Proof.Machine

/-- No command faults or is refused: `RSP_LOAD`'s illegal index is a next state (R122, R160). -/
theorem exec_answers (i : Instr) (s : State) : ∃ t, exec i s = .next t := by
  cases i with
  | crcInit => exact ⟨_, exec_crcInit s⟩
  | crcByte d => exact ⟨_, exec_crcByte d s⟩
  | buildReq sid reg => exact ⟨_, exec_buildReq sid reg s⟩
  | rspLoad idx d =>
    obtain hidx | hidx := Nat.lt_or_ge idx.toNat 9
    · exact ⟨_, exec_rspLoad_legal idx d s hidx⟩
    · exact ⟨_, exec_rspLoad_illegal idx d s hidx⟩
  | parse sid => exact ⟨_, exec_parse sid s⟩

theorem crcBytes_cons (i : Instr) (is : List Instr) :
    crcBytes (i :: is) = crcBytes [i] ++ crcBytes is := by
  cases i <;> rfl

/-- A command other than `CRC_INIT` steps the accumulator over the bytes it feeds: one for
`CRC_BYTE`, none for the others (R21, R104). -/
theorem exec_folds_crc {i : Instr} {s t : State} (hi : i ≠ .crcInit) (h : exec i s = .next t) :
    t.block.crc = (crcBytes [i]).foldl crcStep s.block.crc := by
  obtain ⟨rfl, -⟩ | ⟨d, rfl, rfl⟩ | ⟨sid, reg, rfl, rfl⟩ | ⟨idx, d, -, rfl, rfl⟩ |
    ⟨idx, d, -, rfl, rfl⟩ | ⟨sid, rfl, rfl⟩ := exec_cases h
  · exact absurd rfl hi
  · exact setCrc_block_crc _ s
  · exact setRequest_block_crc _ s
  · exact setRspByte_block_crc _ d s
  · exact raiseIllegal_block_crc s
  · exact setResult_block_crc _ _ s

/-- The generator from any accumulator: a run without `CRC_INIT` folds the step over its bytes. -/
theorem runInstrs_folds_crc {is : List Instr} (his : ∀ i ∈ is, i ≠ .crcInit) (s : State) :
    ∃ t, runInstrs is s = .next t ∧ t.block.crc = (crcBytes is).foldl crcStep s.block.crc := by
  induction is generalizing s with
  | nil => exact ⟨s, rfl, rfl⟩
  | cons i is ih =>
    obtain ⟨hi, his⟩ := List.forall_mem_cons.mp his
    obtain ⟨u, hu⟩ := exec_answers i s
    obtain ⟨t, ht, hcrc⟩ := ih his u
    refine ⟨t, ?_, ?_⟩
    · rw [runInstrs_cons, hu]
      exact ht
    · rw [hcrc, exec_folds_crc hi hu, crcBytes_cons i is, List.foldl_append]

/-- Settles O13: `CRC_INIT` and the reset both leave the seed, from which the run folds. -/
theorem streamingGeneratorEqualsCrcSixteen : Obligations.StreamingGeneratorEqualsCrcSixteen := by
  intro is his
  rw [crc16_length]
  exact ⟨fun s => runInstrs_folds_crc his (setCrc Config.crcSeed s),
    runInstrs_folds_crc his State.reset⟩

end Sys2Proof.Machine

/-! The words of the frame codec's commands (30_encoding.md rule R62) as their opcodes' bits over
their operands'. -/

namespace Sys2Proof

/-- An operand placed at bit `k`, below every set bit of `w`, adds its value there. -/
theorem toNat_or_operand {w : Word32} {n : Nat} (x : BitVec n) (k : Nat) (hk : n + k ≤ 32)
    (hw : 2 ^ (n + k) ∣ w.toNat) :
    (w ||| (x.setWidth 32 <<< k)).toNat = w.toNat + x.toNat * 2 ^ k := by
  have hx : x.toNat * 2 ^ k < 2 ^ (n + k) := by
    rw [Nat.pow_add]
    exact Nat.mul_lt_mul_of_pos_right x.isLt (Nat.two_pow_pos k)
  have hplaced : (x.setWidth 32 <<< k).toNat = x.toNat * 2 ^ k := by
    rw [BitVec.toNat_shiftLeft, BitVec.toNat_setWidth_of_le (by omega), Nat.shiftLeft_eq,
      Nat.mod_eq_of_lt (hx.trans_le (Nat.pow_le_pow_right Nat.two_pos hk))]
  obtain ⟨a, ha⟩ := hw
  rw [BitVec.toNat_or, hplaced, ha, Nat.two_pow_add_eq_or_of_lt hx]

theorem toNat_or_low_operand {w : Word32} {n : Nat} (x : BitVec n) (hn : n ≤ 32)
    (hw : 2 ^ n ∣ w.toNat) : (w ||| x.setWidth 32).toNat = w.toNat + x.toNat := by
  simpa using toNat_or_operand x 0 hn hw

theorem encode_buildReq_eq_or (sid : Byte) (reg : Word16) :
    encode (.buildReq sid reg) =
      0x30000000#32 ||| (sid.setWidth 32 <<< 16) ||| reg.setWidth 32 := by
  have hhead : (0x30000000#32 ||| (sid.setWidth 32 <<< 16)).toNat =
      0x30000000 + sid.toNat * 2 ^ 16 := toNat_or_operand sid 16 (by decide) (by decide)
  apply BitVec.eq_of_toNat_eq
  rw [encode_buildReq_toNat, toNat_or_low_operand reg (by decide) (by omega), hhead]

theorem encode_rspLoad_eq_or (idx : BitVec 4) (d : Byte) :
    encode (.rspLoad idx d) = 0x40000000#32 ||| (idx.setWidth 32 <<< 24) ||| d.setWidth 32 := by
  have hhead : (0x40000000#32 ||| (idx.setWidth 32 <<< 24)).toNat =
      0x40000000 + idx.toNat * 2 ^ 24 := toNat_or_operand idx 24 (by decide) (by decide)
  apply BitVec.eq_of_toNat_eq
  rw [encode_rspLoad_toNat, toNat_or_low_operand d (by decide) (by omega), hhead]

theorem encode_parse_eq_or (sid : Byte) :
    encode (.parse sid) = 0x50000000#32 ||| (sid.setWidth 32 <<< 16) := by
  apply BitVec.eq_of_toNat_eq
  rw [encode_parse_toNat, toNat_or_operand sid 16 (by decide) (by decide)]
  rfl

end Sys2Proof

/-! `PARSE`: the two checks as equations between bytes, and each verdict's write (41_codec.md rules
R123 to R131). -/

namespace Sys2Proof.Machine

theorem headerOk_iff {r : Vector Byte 9} {sid : Byte} :
    headerOk r sid = true ↔ r[0] = sid ∧ r[1] = 0x04#8 ∧ r[2] = 0x04#8 := by
  simp [headerOk, Config.fcReadInput, Config.dataBytes, and_assoc]

theorem crcSpan_eq (r : Vector Byte 9) :
    crcSpan r = [r[0], r[1], r[2], r[3], r[4], r[5], r[6]] := by
  obtain ⟨⟨l⟩, hl⟩ := r
  match l, hl with
  | [_, _, _, _, _, _, _, _, _], _ => rfl

theorem crcOk_iff {r : Vector Byte 9} :
    crcOk r = true ↔
      crc16 [r[0], r[1], r[2], r[3], r[4], r[5], r[6]] 7 = r[8] ++ r[7] := by
  rw [crcOk, beq_iff_eq, crcSpan_eq]
  rfl

theorem parseResponse_wrongHeader {nan : Word32} {r : Vector Byte 9} {sid : Byte}
    (hheader : headerOk r sid = false) : parseResponse nan r sid = (verdictWrongHeader, nan) := by
  simp [parseResponse, hheader]

theorem parseResponse_crcError {nan : Word32} {r : Vector Byte 9} {sid : Byte}
    (hheader : headerOk r sid = true) (hcrc : crcOk r = false) :
    parseResponse nan r sid = (verdictCrcError, nan) := by
  simp [parseResponse, hheader, hcrc]

/-- `PARSE` of a frame whose classification is known (R127). -/
theorem exec_parse_of_parseResponse {sid : Byte} {s : State} {v : BitVec 3} {x : Word32}
    (h : parseResponse s.params.nanSentinel s.block.rsp sid = (v, x)) :
    exec (.parse sid) s = .next { s with
      block := { s.block with
        value := x
        status := (s.block.status &&& 0b11111000#8) ||| (0b00010000#8 ||| v.setWidth 8) } } := by
  rw [exec_parse, h, setResult, setVerdict, BitVec.or_assoc]

/-- Settles O16: each case is one of `parseResponse`'s, its verdict written out as bits. -/
theorem parseClassifiesTheFrame : Obligations.ParseClassifiesTheFrame := by
  refine ⟨fun sid => encode_parse_eq_or sid ▸ decode_encode rfl,
    fun sid s => ⟨fun hheader => ?_, fun hheader hcrc => ?_, fun hheader hcrc => ?_⟩,
    fun w hop hz => (illegalExactlyByReservedBits w).1.mpr (by simp [hop, hz])⟩
  · have hfalse := Bool.eq_false_of_not_eq_true (mt headerOk_iff.mp hheader)
    exact exec_parse_of_parseResponse (parseResponse_wrongHeader hfalse)
  · have hfalse := Bool.eq_false_of_not_eq_true (mt crcOk_iff.mp hcrc)
    exact exec_parse_of_parseResponse (parseResponse_crcError (headerOk_iff.mpr hheader) hfalse)
  · exact exec_parse_of_parseResponse
      (parseResponse_ok (headerOk_iff.mpr hheader) (crcOk_iff.mpr hcrc))

/-- Settles O19: byte 1 fails the header check. -/
theorem otherFunctionCodesAreWrongHeader : Obligations.OtherFunctionCodesAreWrongHeader := by
  intro sid s hfc
  have hheader : headerOk s.block.rsp sid = false := Bool.eq_false_of_not_eq_true fun h => by
    obtain ⟨-, h1, -⟩ := headerOk_iff.mp h
    exact hfc h1
  refine ⟨_, exec_parse sid s, ?_, ?_⟩
  · rw [setResult_block_status, verdict_setVerdict, parseResponse_wrongHeader hheader]
    rfl
  · rw [setResult_block_value, parseResponse_wrongHeader hheader]

/-- Settles O20: the two runs write what the same `parseResponse` answers. -/
theorem parseReadsOnlyTheFrame : Obligations.ParseReadsOnlyTheFrame := by
  intro sid s t s' t' hrsp hnan hs ht
  rw [exec_parse] at hs ht
  cases hs
  cases ht
  simp [hrsp, hnan]

end Sys2Proof.Machine

/-! One corrupted byte under the CRC. The idea: bit 15 of one iteration of R100's loop is the bit 0
that it shifted out, because the polynomial has bit 15 set, so no iteration, no step and no fold
forgets a difference. -/

namespace Sys2Proof.Machine

theorem crcShift_topBit (c : Word16) : (crcShift c).getLsbD 15 = c.getLsbD 0 := by
  have hpoly : Config.crcPoly.getLsbD 15 = true := rfl
  unfold crcShift
  cases c.getLsbD 0 <;> simp [hpoly]

theorem crcShift_injective : Function.Injective crcShift := by
  intro c d h
  have hlow : c.getLsbD 0 = d.getLsbD 0 := by rw [← crcShift_topBit, h, crcShift_topBit]
  have hhigh : c >>> 1 = d >>> 1 := by
    rw [crcShift, crcShift, hlow] at h
    split at h
    · exact (BitVec.xor_left_inj _).mp h
    · exact h
  refine BitVec.eq_of_getLsbD_eq fun i _ => ?_
  cases i with
  | zero => exact hlow
  | succ i => simpa [Nat.add_comm] using congrArg (BitVec.getLsbD · i) hhigh

theorem crcShifts_injective (n : Nat) : Function.Injective (crcShifts n) := by
  induction n with
  | zero => exact Function.injective_id
  | succ n ih => exact ih.comp crcShift_injective

/-- A step forgets no difference between accumulators. -/
theorem crcStep_acc_injective (b : Byte) : Function.Injective (crcStep · b) := fun _ _ h =>
  (BitVec.xor_left_inj _).mp (crcShifts_injective 8 h)

/-- A step forgets no difference between bytes. -/
theorem crcStep_byte_injective (c : Word16) : Function.Injective (crcStep c) := by
  intro a b h
  have hwide : a.setWidth 16 = b.setWidth 16 :=
    (BitVec.xor_right_inj _).mp (crcShifts_injective 8 h)
  simpa using congrArg (BitVec.setWidth 8) hwide

/-- Later steps keep a difference between accumulators. -/
theorem foldl_crcStep_injective (l : List Byte) : Function.Injective (l.foldl crcStep ·) := by
  induction l with
  | nil => exact Function.injective_id
  | cons b l ih => exact ih.comp (crcStep_acc_injective b)

/-- A changed byte changes the fold, from any accumulator. -/
theorem foldl_crcStep_set_ne {l : List Byte} {i : Nat} {x : Byte} (hi : i < l.length)
    (hx : x ≠ l[i]) (c : Word16) : (l.set i x).foldl crcStep c ≠ l.foldl crcStep c := by
  induction l generalizing i c with
  | nil => simp at hi
  | cons b l ih =>
    cases i with
    | zero => exact fun h => hx (crcStep_byte_injective c (foldl_crcStep_injective l h))
    | succ i => exact ih (Nat.lt_of_succ_lt_succ hi) hx (crcStep c b)

theorem crc16_set_ne {l : List Byte} {i n : Nat} {x : Byte} (hn : i < n) (hi : i < l.length)
    (hx : x ≠ l[i]) : crc16 (l.set i x) n ≠ crc16 l n := by
  have htake : i < (l.take n).length := by simp [hn, hi]
  rw [crc16, crc16, List.take_set]
  exact foldl_crcStep_set_ne htake (by simpa using hx) Config.crcSeed

theorem checks_of_verdictOk {nan : Word32} {r : Vector Byte 9} {sid : Byte}
    (h : (parseResponse nan r sid).1 = verdictOk) : headerOk r sid = true ∧ crcOk r = true := by
  obtain ⟨-, hwrong⟩ | ⟨-, -, herror⟩ | ⟨hheader, hcrc, -⟩ := parseResponse_cases nan r sid
  · simp [hwrong, verdictWrongHeader, verdictOk] at h
  · simp [herror, verdictCrcError, verdictOk] at h
  · exact ⟨hheader, hcrc⟩

/-- The header check does not read the bytes from 3 on. -/
theorem headerOk_set {r : Vector Byte 9} {sid x : Byte} {i : Nat} (hi : i < 9) (h3 : 3 ≤ i) :
    headerOk (r.set i x) sid = headerOk r sid := by
  simp [headerOk, show i ≠ 0 by omega, show i ≠ 1 by omega, show i ≠ 2 by omega]

/-- A change to one of the bytes that the CRC covers fails the check of a frame that passed it. -/
theorem crcOk_set_eq_false {r : Vector Byte 9} {x : Byte} {i : Nat} (hi : i < 7)
    (hcrc : crcOk r = true) (hx : x ≠ r[i]) : crcOk (r.set i x) = false := by
  have hreceived : receivedCrc (r.set i x) = receivedCrc r := by
    simp [receivedCrc, show i ≠ 7 by omega, show i ≠ 8 by omega]
  have hspan : crcSpan (r.set i x) = (crcSpan r).set i x := by
    rw [crcSpan, Vector.toList_set, List.take_set, crcSpan]
  have hlt : i < (crcSpan r).length := by simp [crcSpan, Config.rspCrcSpan, hi]
  have hne : x ≠ (crcSpan r)[i] := by simpa [crcSpan] using hx
  have hchanged := crc16_set_ne (n := Config.rspCrcSpan) hi hlt hne
  rw [crcOk, beq_iff_eq] at hcrc
  rw [crcOk, hreceived, hspan, ← hcrc]
  exact beq_eq_false_iff_ne.mpr hchanged

/-- Settles O18: a data byte is none of the header's and one that the CRC covers. -/
theorem oneCorruptedDataByteIsCaught : Obligations.OneCorruptedDataByteIsCaught := by
  intro nan r sid k x hok hx
  obtain ⟨hheader, hcrc⟩ := checks_of_verdictOk hok
  have hk : 3 + k.val < 7 := by omega
  exact parseResponse_crcError ((headerOk_set (by omega) (by omega)).trans hheader)
    (crcOk_set_eq_false hk hcrc hx)

end Sys2Proof.Machine

/-! `BUILD_REQ` and `RSP_LOAD` (41_codec.md rules R120 to R122). -/

namespace Sys2Proof.Machine

/-- R121's example. -/
theorem buildRequest_example :
    buildRequest 1 0x0000 = #v[0x01, 0x04, 0x00, 0x00, 0x00, 0x02, 0x71, 0xCB] := by
  decide +kernel

/-- Settles O14: the word, the write with R120's frame written out, R66's case for the opcode, and
R121's example. -/
theorem buildReqWritesTheFrame : Obligations.BuildReqWritesTheFrame :=
  ⟨fun sid reg => encode_buildReq_eq_or sid reg ▸ decode_encode rfl, exec_buildReq,
    fun w hop hz => (illegalExactlyByReservedBits w).1.mpr (by simp [hop, hz]),
    buildRequest_example⟩

/-- A write of one byte of a frame, position by position. -/
theorem set_eq_ofFn (r : Vector Byte 9) {i : Nat} (hi : i < 9) (d : Byte) :
    r.set i d = Vector.ofFn fun j : Fin 9 => if j.val = i then d else r[j] := by
  ext j hj
  simp [Vector.getElem_set, eq_comm]

/-- Settles O15: `IDX` up to 8 names a byte and is written there; above 8 the term and the word are
both IllegalCommand. -/
theorem rspLoadWritesOneByte : Obligations.RspLoadWritesOneByte := by
  refine ⟨fun idx d hidx => ?_, fun idx d s hidx => ?_, fun idx d s hidx => ?_,
    fun w hop hidx => (illegalExactlyByReservedBits w).1.mpr (by simp [hop, hidx])⟩
  · exact encode_rspLoad_eq_or idx d ▸ decode_encode (decide_eq_true hidx)
  · have hlt : idx.toNat < 9 := by bv_omega
    rw [exec_rspLoad_legal idx d s hlt, setRspByte, set_eq_ofFn]
  · exact exec_rspLoad_illegal idx d s (by bv_omega)

end Sys2Proof.Machine

/-! Which steps stop, and with what (60_exceptions.md rules R170, R175 and R185). -/

namespace Sys2Proof.Machine

theorem issueWord_of_illegal {w : Word32} {why : IllegalReason} (hw : decode w = .illegal why)
    (s : State) : issueWord w s = .next (raiseIllegal s) := by
  simp only [issueWord, hw]

theorem issueWord_answers (w : Word32) (s : State) : ∃ t, issueWord w s = .next t := by
  cases hw : decode w with
  | command i =>
    obtain ⟨t, ht⟩ := exec_answers i s
    exact ⟨t, (issueWord_of_decode hw s).trans ht⟩
  | illegal why => exact ⟨raiseIllegal s, issueWord_of_illegal hw s⟩

theorem transmitStep_answers (stage : TxStep) (now : Nat) (s : State) :
    ∃ t, transmitStep stage now s = .next t := by
  cases stage with
  | preFlush | assertTx | write => exact ⟨_, rfl⟩
  | build =>
    obtain ⟨u, hu⟩ := issueWord_answers (encode (.buildReq s.engine.txn.sid s.engine.txn.reg)) s
    exact ⟨goTo (.transmitting .assertTx) u, by simp [transmitStep, hu]⟩
  | settle => simp only [transmitStep]; split <;> exact ⟨_, rfl⟩
  | waitSent => simp only [transmitStep]; split <;> exact ⟨_, rfl⟩

/-- The validation stops only where a verdict that numbers no Error Code is taken (R171, R175). -/
theorem validateStep_answers (stage : ValStep) (s : State) :
    (∃ t, validateStep stage s = .next t) ∨
    (errorCodeOf (verdict s.block.status) = none ∧
      validateStep stage s = .fault .reservedVerdict) := by
  cases stage with
  | read => simp only [validateStep]; split <;> exact .inl ⟨_, rfl⟩
  | issue ws =>
    cases ws with
    | cons w ws =>
      obtain ⟨u, hu⟩ := issueWord_answers w s
      exact .inl ⟨goTo (.validating (.issue ws)) u, by simp [validateStep, hu]⟩
    | nil => cases he : errorCodeOf (verdict s.block.status) <;> simp [validateStep, he]

theorem engineStep_answers (now : Nat) (s : State) :
    (∃ t, engineStep now s = .next t) ∨
    (errorCodeOf (verdict s.block.status) = none ∧
      engineStep now s = .fault .reservedVerdict) := by
  unfold engineStep
  split
  · exact .inl ⟨_, rfl⟩
  · exact .inl (transmitStep_answers _ now s)
  · exact .inl ⟨_, rfl⟩
  · exact validateStep_answers _ s
  · exact .inl ⟨_, rfl⟩
  · exact .inl ⟨_, rfl⟩

/-- A call answers unless it would start a second transaction (R170). -/
theorem hostCall_answers (c : HostCall) (s : State) :
    (∃ t, hostCall c s = .next t) ∨
    (s.engine.inFlight = true ∧ (∃ reg sid, c = .readValue reg sid) ∧
      hostCall c s = .refused .concurrentTransaction) := by
  cases c with
  | readValue reg sid => cases hf : s.engine.inFlight <;> simp [hostCall, hf]
  | _ => exact .inl ⟨_, rfl⟩

/-- What an input can answer, with the reason of each stop. -/
theorem takeInput_answers (i : Input) (s : State) :
    (∃ t, takeInput i s = .next t) ∨
    (s.engine.inFlight = true ∧ (∃ w, i = .command w) ∧
      takeInput i s = .refused .interleavedStreams) ∨
    (s.engine.inFlight = true ∧ (∃ reg sid, i = .call (.readValue reg sid)) ∧
      takeInput i s = .refused .concurrentTransaction) ∨
    (errorCodeOf (verdict s.block.status) = none ∧ takeInput i s = .fault .reservedVerdict) := by
  cases i with
  | command w =>
    cases hf : s.engine.inFlight with
    | false => exact .inl (takeInput_command hf w ▸ issueWord_answers w s)
    | true => simp [takeInput, hf]
  | call c =>
    obtain h | ⟨hf, ⟨reg, sid, rfl⟩, h⟩ := hostCall_answers c s
    · exact .inl h
    · exact .inr (.inr (.inl ⟨hf, ⟨reg, sid, rfl⟩, h⟩))
  | engine now =>
    obtain h | h := engineStep_answers now s
    · exact .inl h
    · exact .inr (.inr (.inr h))
  | reset | readPort | arrive | lose | sent => exact .inl ⟨_, rfl⟩

/-- Settles O35: the one fault needs a verdict that numbers no Error Code, and the invariant's
verdicts number one. -/
theorem invariantStatesNeverFault : Obligations.InvariantStatesNeverFault := by
  intro s r ok h
  obtain ⟨-, ho⟩ | ⟨i, rest, -, hi⟩ := step_cases h
  · cases ho
  · obtain ⟨t, ht⟩ | ⟨-, -, hr⟩ | ⟨-, -, hr⟩ | ⟨hnone, -⟩ :=
      takeInput_answers i { s with inputs := rest }
    · cases ht.symm.trans hi
    · cases hr.symm.trans hi
    · cases hr.symm.trans hi
    · obtain ⟨-, he⟩ | ⟨-, he⟩ | ⟨-, he⟩ := errorCodeOf_legal _ ok.block.verdictLegal <;>
        cases hnone.symm.trans he

/-- Settles O36: of what an input can answer, the two refusals carry their reason. -/
theorem onlyInterleavingIsRefused : Obligations.OnlyInterleavingIsRefused := by
  intro s r
  constructor
  · intro h
    obtain ⟨-, ho⟩ | ⟨i, rest, hin, hi⟩ := step_cases h
    · cases ho
    · obtain ⟨t, ht⟩ | ⟨hf, ⟨w, rfl⟩, hr⟩ | ⟨hf, ⟨reg, sid, rfl⟩, hr⟩ | ⟨-, hr⟩ :=
        takeInput_answers i { s with inputs := rest }
      · cases ht.symm.trans hi
      · cases hr.symm.trans hi; exact ⟨hf, .inl ⟨rfl, w, rest, hin⟩⟩
      · cases hr.symm.trans hi; exact ⟨hf, .inr ⟨rfl, reg, sid, rest, hin⟩⟩
      · cases hr.symm.trans hi
  · rintro ⟨hf, ⟨rfl, w, rest, hin⟩ | ⟨rfl, reg, sid, rest, hin⟩⟩
    · rw [step_of_inputs hin]; simp [takeInput, hf]
    · rw [step_of_inputs hin]; simp [takeInput, hostCall, hf]

end Sys2Proof.Machine

/-! What a step does to the host: only a call or a step of the Engine writes it, and in flight only
the Engine moves the transaction (60_exceptions.md rules R172 to R185). -/

namespace Sys2Proof.Machine

/-- Of the inputs, only a call and an engine step write the host. -/
theorem step_changes_engine {s t : State} (h : step s = .next t) :
    t.engine = s.engine ∨
    (∃ c rest, s.inputs = .call c :: rest ∧ hostCall c { s with inputs := rest } = .next t) ∨
    ∃ now rest, s.inputs = .engine now :: rest ∧ EngineMove now { s with inputs := rest } t := by
  obtain ⟨-, hst⟩ | ⟨i, rest, hin, hi⟩ := step_cases h
  · cases hst; exact .inl rfl
  · cases i with
    | command w =>
      obtain ⟨-, hw⟩ := takeInput_command_eq_next hi
      exact .inl (issueWord_keeps_engine (s := { s with inputs := rest }) hw)
    | call c => exact .inr (.inl ⟨c, rest, hin, hi⟩)
    | engine now => exact .inr (.inr ⟨now, rest, hin, engineStep_cases hi⟩)
    | arrive b => cases hi; exact .inl (arriveByte_engine b _)
    | sent => cases hi; exact .inl (sendByte_engine _)
    | reset | readPort | lose => cases hi; exact .inl rfl

/-- A call in flight starts nothing (R170), so it leaves the transaction where it is. -/
theorem hostCall_keeps_phase {c : HostCall} {s t : State} (h : hostCall c s = .next t)
    (hf : s.engine.inFlight = true) : t.engine.phase = s.engine.phase := by
  obtain ⟨reg, sid, -, hidle, -⟩ | ⟨-, code, succ, errs, turn, drain, r, rfl, -⟩ := hostCall_cases h
  · cases hf.symm.trans hidle
  · rfl

/-- In flight only the Engine moves the transaction on. -/
theorem engineMove_of_phase_ne {s t : State} (h : step s = .next t)
    (hf : s.engine.inFlight = true) (hne : t.engine.phase ≠ s.engine.phase) :
    ∃ now rest, s.inputs = .engine now :: rest ∧ EngineMove now { s with inputs := rest } t := by
  obtain he | ⟨c, rest, -, hc⟩ | hm := step_changes_engine h
  · exact absurd (congrArg Engine.phase he) hne
  · exact absurd (hostCall_keeps_phase hc hf) hne
  · exact hm

/-- The poll gives up only past the turnaround timeout and with fewer than nine bytes (R174). -/
theorem EngineMove.timeout_guard {now : Nat} {s t : State} {d : DrainStep} (hm : EngineMove now s t)
    (hp : s.engine.phase = .awaitingResponse) (hd : t.engine.phase = .draining d) :
    s.engine.turnaroundMs.toNat < elapsed now s ∧ s.chan.rx.length < 9 := by
  cases hm with
  | timeout _ hn ht => exact ⟨ht, hn⟩
  | nineBytes => simp at hd
  | polling => simp [hp] at hd
  | rest hf => simp [Engine.inFlight, hp] at hf
  | build _ h | verdict _ h | issue _ _ _ h => cases hp.symm.trans h
  | _ h => cases hp.symm.trans h

/-- Settles O44: only a step of the Engine leaves the poll, and its one move from the poll to the
drain has its guard. -/
theorem noTimeoutBeforeTurnaround : Obligations.NoTimeoutBeforeTurnaround := by
  rintro s t h hp ⟨d, hd⟩
  obtain ⟨now, rest, hin, hm⟩ :=
    engineMove_of_phase_ne h (by simp [Engine.inFlight, hp]) (by simp [hp, hd])
  exact ⟨now, rest, hin, hm.timeout_guard hp hd⟩

/-- The drain's end: the exchange is finished as it stands, or, with a byte present when time is up,
as a Timeout that keeps the value (R176). -/
theorem EngineMove.eq_finishExchange {now : Nat} {s t : State} {d : DrainStep}
    (hm : EngineMove now s t) (hp : s.engine.phase = .draining d) (hdone : t.engine.phase = .done) :
    t = finishExchange s ∨ (d = .collecting ∧ s.chan.rx ≠ [] ∧
      t = finishExchange (setOutcome .timeout s.engine.txn.value s)) := by
  cases hm with
  | drainIdle | drainQuiet => exact .inl rfl
  | drainOverride h ht hr =>
    cases hp.symm.trans h
    exact .inr ⟨rfl, hr, rfl⟩
  | drainStart => simp at hdone
  | drainDiscard => simp [hp] at hdone
  | rest hf => simp [Engine.inFlight, hp] at hf
  | build _ h | verdict _ h | issue _ _ _ h => cases hp.symm.trans h
  | _ h => cases hp.symm.trans h

/-- A step that ends an exchange is the drain's last. -/
theorem step_eq_finishExchange {s t : State} {d : DrainStep} (h : step s = .next t)
    (hp : s.engine.phase = .draining d) (hdone : t.engine.phase = .done) :
    ∃ rest, t = finishExchange { s with inputs := rest } ∨
      (d = .collecting ∧ s.chan.rx ≠ [] ∧
        t = finishExchange (setOutcome .timeout s.engine.txn.value { s with inputs := rest })) := by
  obtain ⟨now, rest, -, hm⟩ :=
    engineMove_of_phase_ne h (by simp [Engine.inFlight, hp]) (by simp [hp, hdone])
  exact ⟨rest, hm.eq_finishExchange hp hdone⟩

/-- R177: the counter that moves is the recorded Error Code's. -/
theorem finishExchange_moves_one_counter (s : State) :
    ((finishExchange s).engine.errorCode = .noError ∧
      (finishExchange s).engine.successCount = s.engine.successCount + 1 ∧
      (finishExchange s).engine.errorCount = s.engine.errorCount) ∨
    ((finishExchange s).engine.errorCode ≠ .noError ∧
      (finishExchange s).engine.successCount = s.engine.successCount ∧
      (finishExchange s).engine.errorCount = s.engine.errorCount + 1) := by
  by_cases he : s.engine.txn.err = .noError <;> simp [he]

theorem EngineMove.keeps_counters {now : Nat} {s t : State} (hm : EngineMove now s t)
    (hno : ¬((∃ d, s.engine.phase = .draining d) ∧ t.engine.phase = .done)) :
    t.engine.successCount = s.engine.successCount ∧ t.engine.errorCount = s.engine.errorCount := by
  cases hm with
  | build u _ hu => simp [issueWord_keeps_engine hu]
  | issue w ws u _ hu => simp [issueWord_keeps_engine hu]
  | drainIdle h | drainQuiet h | drainOverride h =>
    exact absurd ⟨⟨_, h⟩, finishExchange_engine_phase _⟩ hno
  | _ => simp

/-- Settles O42: the drain's last step finishes an exchange; of the other steps only the two clears
write a counter. -/
theorem exactlyOneCounterMovesPerExchange : Obligations.ExactlyOneCounterMovesPerExchange := by
  refine fun s t h => ⟨?_, fun hno => ?_⟩
  · rintro ⟨⟨d, hp⟩, hdone⟩
    obtain ⟨rest, rfl | ⟨-, -, rfl⟩⟩ := step_eq_finishExchange h hp hdone
    · exact finishExchange_moves_one_counter _
    · exact finishExchange_moves_one_counter (setOutcome .timeout s.engine.txn.value _)
  · obtain he | ⟨c, rest, hin, hc⟩ | ⟨now, rest, -, hm⟩ := step_changes_engine h
    · rw [he]; exact ⟨.inl rfl, .inl rfl⟩
    · obtain ⟨reg, sid, -, -, rfl⟩ |
        ⟨-, code, succ, errs, turn, drain, r, rfl, hsucc, herrs, -, -⟩ := hostCall_cases hc
      · exact ⟨.inl rfl, .inl rfl⟩
      · refine ⟨hsucc.imp_right ?_, herrs.imp_right ?_⟩
        · rintro ⟨rfl, rfl | rfl⟩
          · exact ⟨rfl, rest, .inl hin⟩
          · exact ⟨rfl, rest, .inr hin⟩
        · rintro ⟨rfl, rfl | rfl⟩
          · exact ⟨rfl, rest, .inl hin⟩
          · exact ⟨rfl, rest, .inr hin⟩
    · obtain ⟨hsucc, herrs⟩ := hm.keeps_counters hno
      exact ⟨.inl hsucc, .inl herrs⟩

/-- Settles O50: the next state meets the invariant, which holds the line in receive outside the
send. -/
theorem directionIsReceiveOnReturn : Obligations.DirectionIsReceiveOnReturn := fun s t ok h hf =>
  (stepKeepsTheInvariant s t ok h).engine.dir_eq_rx_of_not_inFlight hf

/-- Settles O51: an exchange finished as it stands has the sentinel with any error, by the
invariant; an override keeps that value too, unless it overrides a success. -/
theorem failureReturnsTheSentinel : Obligations.FailureReturnsTheSentinel := by
  intro s t d ok h hp hdone
  have hfail := ok.engine.outcome d hp
  obtain ⟨rest, rfl | ⟨hd, hr, rfl⟩⟩ := step_eq_finishExchange h hp hdone
  · refine ⟨s.engine.txn.value, finishExchange_reply _, ?_⟩
    by_cases he : s.engine.txn.err = .noError
    · exact .inl ((finishExchange_engine_errorCode _).trans he)
    · exact .inr (.inl (hfail he))
  · refine ⟨s.engine.txn.value, finishExchange_reply _, ?_⟩
    by_cases he : s.engine.txn.err = .noError
    · exact .inr (.inr ⟨finishExchange_engine_errorCode _, hd, hr, he, rfl⟩)
    · exact .inr (.inl (hfail he))

end Sys2Proof.Machine

/-! One input as one step: illegal words, the setters and getters, and the start of an exchange
(60_exceptions.md rules R160, R163, R171, R172 and R180 to R184). -/

namespace Sys2Proof.Machine

/-- Settles O25: the word is taken and only raises the exception, whose write is bit 6. -/
theorem illegalWordOnlySetsIll : Obligations.IllegalWordOnlySetsIll := by
  intro s w rest why hin hf hw
  rw [step_of_inputs hin, takeInput_command (s := { s with inputs := rest }) hf,
    issueWord_of_illegal hw]
  rfl

/-- A run whose first step takes an input with the answer `t` goes on from `t`. -/
theorem run_of_input (n : Nat) {s t : State} {o : Host.Outcome State Fault Refusal} {i : Input}
    {rest : List Input} (hin : s.inputs = i :: rest)
    (hi : takeInput i { s with inputs := rest } = .next t) (ht : run n t = o) :
    run (n + 1) s = o := by
  rw [run_succ, step_of_inputs hin, hi, andThen_next, ht]

theorem run_one (s : State) : run 1 s = step s := by
  rw [run_succ]
  cases step s <;> rfl

/-- Settles O26: the first step is O25's, after which the second is the legal command's. -/
theorem commandAfterIllegalWordRuns : Obligations.CommandAfterIllegalWordRuns := by
  intro s w v rest why i hin hf hw hv
  rw [run_succ, illegalWordOnlySetsIll s w _ why hin hf hw, andThen_next, run_one]
  exact stepRunsTheDecodedCommand.1 _ v rest i rfl hf hv

/-- Settles O30: the fields of `Engine.initial`; the OPEN timeouts by their range. -/
theorem hostStartsIdle : Obligations.HostStartsIdle :=
  ⟨rfl, rfl, rfl, rfl, rfl, defaultMs_bounds Config.turnOffset,
    defaultMs_bounds Config.drainOffset⟩

/-- Settles O39: the five numbers, and the round trip. -/
theorem errorCodesAreNumbered : Obligations.ErrorCodesAreNumbered :=
  ⟨rfl, rfl, rfl, rfl, rfl, errorCodeOf_errorNumber⟩

/-- R180's `min(max(v, 20), 5000)`, on the number. -/
theorem clampMs_eq_min_max (v : Word16) :
    clampMs v = BitVec.ofNat 16 (min (max v.toNat 20) 5000) := by
  have hmin : v < Config.tMin ↔ v.toNat < 20 := BitVec.lt_def
  have hmax : Config.tMax < v ↔ 5000 < v.toNat := BitVec.lt_def
  simp only [clampMs, hmin, hmax]
  split
  · rw [show min (max v.toNat 20) 5000 = 20 by omega]; rfl
  · split
    · rw [show min (max v.toNat 20) 5000 = 5000 by omega]; rfl
    · rw [show min (max v.toNat 20) 5000 = v.toNat by omega, BitVec.ofNat_toNat, BitVec.setWidth_eq]

/-- Settles O40: each setter's one step stores the clamped value. -/
theorem settersClamp : Obligations.SettersClamp := by
  intro s v rest
  rw [← clampMs_eq_min_max]
  exact ⟨step_of_inputs, step_of_inputs⟩

/-- Settles O41: each call is one step, whose answer is read off `hostCall`. -/
theorem gettersReturnTheValueBeforeTheClear : Obligations.GettersReturnTheValueBeforeTheClear :=
  fun _ _ _ => ⟨step_of_inputs, step_of_inputs, step_of_inputs, step_of_inputs, step_of_inputs,
    step_of_inputs, step_of_inputs, step_of_inputs⟩

/-- A call of `readValue` outside a transaction starts one (R184). -/
theorem takeInput_readValue {s : State} (hf : s.engine.inFlight = false) (reg : Word16)
    (sid : Option Byte) :
    takeInput (.call (.readValue reg sid)) s =
      .next (startTransaction reg (sid.getD Config.defaultSlaveId) s) := by
  simp [takeInput, hostCall, hf]

/-- Settles O52: the call starts a transaction with the default identifier. -/
theorem defaultSlaveIdentifierIsOne : Obligations.DefaultSlaveIdentifierIsOne := by
  intro s reg rest hf hin
  rw [step_of_inputs hin, takeInput_readValue (s := { s with inputs := rest }) hf]
  exact ⟨_, rfl, rfl, rfl, rfl, rfl, rfl⟩

end Sys2Proof.Machine

/-! The Engine's moves as steps of a run, and the exchange's phases one by one (60_exceptions.md
rules R173 to R177). -/

namespace Sys2Proof.Machine

/-- Every move is the Engine's step under its guard: with `engineStep_cases`, the moves are exactly
what the Engine can do. -/
theorem EngineMove.engineStep_eq {now : Nat} {s t : State} (hm : EngineMove now s t) :
    engineStep now s = .next t := by
  cases hm with
  | rest h =>
    have hp : s.engine.phase = .idle ∨ s.engine.phase = .done := by
      cases hp : s.engine.phase <;> simp [Engine.inFlight, hp] at h ⊢
    obtain hp | hp := hp <;> simp only [engineStep, hp]
  | preFlush h | assertTx h | write h => simp only [engineStep, h, transmitStep]
  | build u h hu => simp [engineStep, h, transmitStep, hu]
  | settled h ht | settling h ht | sentAll h ht => simp [engineStep, h, transmitStep, ht]
  | sending h ht =>
    obtain ⟨b, bs, htx⟩ := List.exists_cons_of_ne_nil ht
    simp only [engineStep, h, transmitStep, htx]
  | nineBytes h hn => simp [engineStep, h, pollStep, Config.rspLen, hn]
  | timeout h hn ht | polling h hn ht =>
    simp [engineStep, h, pollStep, Config.rspLen, Nat.not_le.mpr hn, ht]
  | insufficient h hn => simp [engineStep, h, validateStep, Config.rspLen, hn]
  | readNine h hn => simp [engineStep, h, validateStep, Config.rspLen, Nat.not_lt.mpr hn]
  | issue w ws u h hu => simp [engineStep, h, validateStep, hu]
  | verdict e h he => simp [engineStep, h, validateStep, he]
  | drainIdle h hr => simp [engineStep, h, drainStep, hr]
  | drainStart h hr =>
    obtain ⟨b, bs, hrx⟩ := List.exists_cons_of_ne_nil hr
    simp only [engineStep, h, drainStep, hrx]
  | drainQuiet h ht hr => simp [engineStep, h, drainStep, ht, hr]
  | drainOverride h ht hr =>
    obtain ⟨b, bs, hrx⟩ := List.exists_cons_of_ne_nil hr
    simp [engineStep, h, drainStep, ht, hrx]
  | drainDiscard h ht => simp [engineStep, h, drainStep, ht]

theorem step_of_move {now : Nat} {s t : State} {rest : List Input}
    (hin : s.inputs = .engine now :: rest) (hm : EngineMove now { s with inputs := rest } t) :
    step s = .next t :=
  (step_of_inputs hin).trans hm.engineStep_eq

/-- A run whose first step is a move of the Engine to `t` goes on from `t`. -/
theorem run_of_move (n : Nat) {now : Nat} {s t : State} {o : Host.Outcome State Fault Refusal}
    {rest : List Input} (hin : s.inputs = .engine now :: rest)
    (hm : EngineMove now { s with inputs := rest } t) (ht : run n t = o) : run (n + 1) s = o :=
  run_of_input n hin hm.engineStep_eq ht

/-- Settles O43: the moves from the last look at the transport and from the poll. -/
theorem pollEndsByNineBytesOrByTime : Obligations.PollEndsByNineBytesOrByTime := by
  refine ⟨fun s now rest hin hp htx => ?_, fun s now rest hin hp => ⟨?_, ?_, ?_⟩⟩
  · exact ⟨_, step_of_move hin (.sentAll hp htx), by simp⟩
  · exact fun hn => step_of_move hin (.nineBytes hp hn)
  · exact fun hn ht => step_of_move hin (.timeout hp hn ht)
  · exact fun hn ht => step_of_move hin (.polling hp hn (Nat.not_lt.mpr ht))

/-- Settles O45: the short read's move. -/
theorem fewerThanNineBytesAreInsufficient : Obligations.FewerThanNineBytesAreInsufficient :=
  fun _ _ _ hin hp hn => ⟨_, step_of_move hin (.insufficient hp hn), rfl, rfl, rfl, rfl⟩

/-- Settles O48: the poll times out, and the drain of an empty channel ends at once. -/
theorem silentLinkTimesOut : Obligations.SilentLinkTimesOut := by
  intro s n1 n2 rest hp hr ht hin
  refine ⟨_, run_of_move 1 hin (.timeout hp (by simp [hr]) ht)
    (run_of_move 0 rfl (.drainIdle rfl hr) rfl), ?_⟩
  simp

/-- Settles O49: with the timeout at least 20 ms, a look at 0 ms takes the bytes off the channel, so
that the drain's last look finds none; without that look it finds them. -/
theorem drainAdmitsBothOutcomes : Obligations.DrainAdmitsBothOutcomes := by
  refine ⟨fun s rest ok hp hr => ?_, fun s now rest hp hr hin => ?_⟩
  · have htime : ¬s.engine.timeoutMs.toNat ≤ 0 := by have := ok.engine.timeout; omega
    constructor
    · refine ⟨[0, 0, s.engine.timeoutMs.toNat], _, run_of_move 2 rfl (.drainStart hp hr)
        (run_of_move 1 rfl (.drainDiscard rfl htime)
          (run_of_move 0 rfl (.drainQuiet rfl (Nat.le_refl _) rfl) rfl)), ?_⟩
      simp
    · refine ⟨[0, s.engine.timeoutMs.toNat], _, run_of_move 1 rfl (.drainStart hp hr)
        (run_of_move 0 rfl (.drainOverride rfl (Nat.le_refl _) hr) rfl), ?_⟩
      simp
  · exact ⟨_, step_of_move hin (.drainIdle hp hr), by simp⟩

end Sys2Proof.Machine

/-! The request of an exchange, from the call of `readValue` to the poll (60_exceptions.md rule
R173). -/

namespace Sys2Proof.Machine

/-- A run in two parts. -/
theorem run_trans (m n : Nat) {s t : State} {o : Host.Outcome State Fault Refusal}
    (hm : run m s = .next t) (hn : run n t = o) : run (m + n) s = o := by
  rw [run_add, hm, andThen_next, hn]

/-- The transport sends what is unsent, in order (R173 step 6). -/
theorem run_of_sends (k n : Nat) {bs : List Byte} {s : State} {rest : List Input}
    {o : Host.Outcome State Fault Refusal} (htx : s.chan.tx = bs) (hk : bs.length = k)
    (hin : s.inputs = List.replicate k .sent ++ rest)
    (ht : run n { s with
      inputs := rest, chan := { s.chan with tx := [], line := s.chan.line ++ bs } } = o) :
    run (k + n) s = o := by
  induction bs generalizing k s with
  | nil =>
    obtain rfl : 0 = k := hk
    obtain rfl : s.inputs = rest := hin
    have hsame : { s with chan := { s.chan with tx := [], line := s.chan.line ++ [] } } = s := by
      rw [List.append_nil, ← htx]
    rw [Nat.zero_add, ← hsame]
    exact ht
  | cons b bs ih =>
    obtain rfl : bs.length + 1 = k := hk
    have hsend : takeInput .sent { s with inputs := List.replicate bs.length .sent ++ rest } =
        .next { s with
          inputs := List.replicate bs.length .sent ++ rest
          chan := { s.chan with tx := bs, line := s.chan.line ++ [b] } } := by
      simp only [takeInput, sendByte, htx]
    rw [Nat.add_right_comm]
    exact run_of_input _ hin hsend (ih bs.length rfl rfl rfl (by simpa using ht))

/-- R173 steps 1 to 3: the pre-flush, `BUILD_REQ`, and transmit direction. -/
theorem run_buildRequest {s : State} {n0 n1 n2 : Nat} {rest : List Input}
    (hp : s.engine.phase = .transmitting .preFlush)
    (hin : s.inputs = .engine n0 :: .engine n1 :: .engine n2 :: rest) :
    run 3 s = .next (goTo (.transmitting .settle) (startWait n2 (setDirection .tx
      (goTo (.transmitting .assertTx) (setRequest (buildRequest s.engine.txn.sid s.engine.txn.reg)
        (goTo (.transmitting .build) { s with
          inputs := rest, chan := { s.chan with rx := [], line := [] } })))))) := by
  have hbuild : ∀ t, issueWord (encode (.buildReq s.engine.txn.sid s.engine.txn.reg)) t =
      .next (setRequest (buildRequest s.engine.txn.sid s.engine.txn.reg) t) :=
    issueWord_of_decode (decode_encode rfl)
  exact run_of_move 2 hin (.preFlush hp) (run_of_move 1 rfl (.build _ rfl (hbuild _))
    (run_of_move 0 rfl (.assertTx rfl) rfl))

/-- R173 steps 4 to 7: the settle wait, the write, the transport, and receive direction. -/
theorem run_sendRequest {s : State} {n3 n4 n5 : Nat} {rest : List Input}
    (hp : s.engine.phase = .transmitting .settle) (ht : s.params.tSettle ≤ elapsed n3 s)
    (htx : s.chan.tx = [])
    (hin : s.inputs = .engine n3 :: .engine n4 ::
      (List.replicate 8 .sent ++ .engine n5 :: rest)) :
    run 11 s = .next (goTo .awaitingResponse (startWait n5 (setDirection .rx
      (goTo (.transmitting .waitSent) { s with
        inputs := rest
        chan := { s.chan with tx := [], line := s.chan.line ++ s.block.req.toList } })))) := by
  have hwritten : s.chan.tx ++ s.block.req.toList = s.block.req.toList := by simp [htx]
  exact run_of_move 10 hin (.settled hp ht) (run_of_move 9 rfl (.write rfl)
    (run_of_sends 8 1 hwritten Vector.length_toList rfl (run_of_move 0 rfl (.sentAll rfl rfl) rfl)))

/-- The call of `readValue` as the first step of a run. -/
theorem run_of_readValue (n : Nat) {s : State} {reg : Word16} {sid : Byte} {rest : List Input}
    {o : Host.Outcome State Fault Refusal} (hf : s.engine.inFlight = false)
    (hin : s.inputs = .call (.readValue reg (some sid)) :: rest)
    (ht : run n (startTransaction reg sid { s with inputs := rest }) = o) : run (n + 1) s = o :=
  run_of_input n hin (takeInput_readValue (s := { s with inputs := rest }) hf reg (some sid)) ht

/-- Settles O46: the call, and the two halves of the send. -/
theorem requestIsSentWhole : Obligations.RequestIsSentWhole := by
  intro s reg sid n0 n1 n2 n3 n4 n5 rest hf htx hsettle hin
  simp only [List.cons_append, List.nil_append, List.append_assoc] at hin
  refine ⟨_, run_of_readValue 14 hf hin (run_trans 3 11 (run_buildRequest rfl rfl)
    (run_sendRequest rfl ?_ ?_ (setDirection_inputs _ _))), ?_⟩
  · simpa [elapsed] using hsettle
  · simpa using htx
  · by_cases hline : s.params.hasDirLine = true <;> simp [hline, setRequest, setReqv]

/-! The response of an exchange, from the poll to the answer of `readValue` (60_exceptions.md rules
R174 to R177). -/

/-- A command reads the parameters and writes the block from what it holds, whatever the host and
the channel are (R20, R30). -/
theorem exec_of_block {i : Instr} {s s' t : State} (hparams : s'.params = s.params)
    (hblock : s'.block = s.block) (h : exec i s = .next t) :
    exec i s' = .next { s' with block := t.block } := by
  obtain ⟨rfl, rfl⟩ | ⟨d, rfl, rfl⟩ | ⟨sid, reg, rfl, rfl⟩ | ⟨idx, d, hidx, rfl, rfl⟩ |
    ⟨idx, d, hidx, rfl, rfl⟩ | ⟨sid, rfl, rfl⟩ := exec_cases h
  · simp [setCrc, hblock]
  · simp [setCrc, hblock]
  · simp [setRequest, hblock]
  · simp [exec_rspLoad_legal idx d s' hidx, setRspByte, hblock]
  · simp [exec_rspLoad_illegal idx d s' hidx, raiseIllegal, hblock]
  · simp [setResult, hparams, hblock]

theorem runInstrs_of_block {is : List Instr} {s s' t : State} (hparams : s'.params = s.params)
    (hblock : s'.block = s.block) (h : runInstrs is s = .next t) :
    runInstrs is s' = .next { s' with block := t.block } := by
  induction is generalizing s s' with
  | nil => cases h; rw [← hblock]; rfl
  | cons i is ih =>
    obtain ⟨u, hu, ht⟩ := andThen_eq_next h
    rw [runInstrs_cons, exec_of_block hparams hblock hu, andThen_next]
    exact ih (hparams.trans (exec_keeps_params hu).symm) rfl ht

/-- The Engine issues a list of commands in as many steps, with their effect on the block. -/
theorem run_issues {is : List Instr} (hwf : ∀ i ∈ is, i.wellFormed = true) {s t : State}
    {ns : List Nat} {rest : List Input} (hlen : ns.length = is.length)
    (hp : s.engine.phase = .validating (.issue (Asm.words is)))
    (hin : s.inputs = ns.map .engine ++ rest) (ht : runInstrs is s = .next t) :
    run is.length s = .next (goTo (.validating (.issue [])) { s with
      inputs := rest, block := t.block }) := by
  induction is generalizing s t ns with
  | nil =>
    obtain rfl := List.length_eq_zero_iff.mp hlen
    obtain rfl : s.inputs = rest := hin
    cases ht
    have hstay : goTo (.validating (.issue [])) s = s := congrArg (goTo · s) hp.symm
    exact congrArg Host.Outcome.next hstay.symm
  | cons i is ih =>
    obtain ⟨hi, his⟩ := List.forall_mem_cons.mp hwf
    obtain _ | ⟨n, ns⟩ := ns
    · cases hlen
    · obtain ⟨u, hu, ht⟩ := andThen_eq_next ht
      have hissue : issueWord (encode i) { s with inputs := ns.map .engine ++ rest } =
          .next { s with inputs := ns.map .engine ++ rest, block := u.block } :=
        (issueWord_of_decode (decode_encode hi) _).trans (exec_of_block (s := s) rfl rfl hu)
      have hrest : runInstrs is (goTo (.validating (.issue (Asm.words is)))
          { s with inputs := ns.map .engine ++ rest, block := u.block }) = .next _ :=
        runInstrs_of_block (exec_keeps_params hu).symm rfl ht
      have hgo := ih his (Nat.succ.inj hlen) rfl rfl hrest
      exact run_of_move is.length hin (.issue _ _ _ hp hissue) hgo

/-- R175's words for nine bytes are `DECODE`'s (R68). -/
theorem parseWords_toList (r : Vector Byte 9) (sid : Byte) :
    parseWords r.toList sid = Asm.words (Asm.decodeFrame sid r) := by
  rw [Asm.decodeFrame_eq]
  obtain ⟨⟨l⟩, hl⟩ := r
  match l, hl with
  | [_, _, _, _, _, _, _, _, _], _ => rfl

/-- The ten commands of R175 leave the frame, its value and its verdict in the block. -/
theorem run_parseWords {b : Vector Byte 9} {sid : Byte} {s : State} {ns : List Nat}
    {rest : List Input} (hlen : ns.length = 10)
    (hp : s.engine.phase = .validating (.issue (parseWords b.toList sid)))
    (hin : s.inputs = ns.map .engine ++ rest) :
    run 10 s = .next (goTo (.validating (.issue [])) { s with
      inputs := rest
      block := { s.block with
        rsp := b
        value := (parseResponse s.params.nanSentinel b sid).2
        status := setVerdict (parseResponse s.params.nanSentinel b sid).1 s.block.status } }) := by
  have hten : (Asm.decodeFrame sid b).length = 10 := by rw [Asm.decodeFrame_eq]; rfl
  obtain ⟨-, hdecode⟩ := pseudoInstructionsDoWhatTheyName
  rw [← hten]
  exact run_issues (Asm.decodeFrame_wellFormed sid b) (hlen.trans hten.symm)
    (parseWords_toList b sid ▸ hp) hin (hdecode sid b s)

/-- A legal verdict numbers an Error Code, NoError exactly where it is 0 (R26, R171). -/
theorem errorCodeOf_legal_iff {v : BitVec 3} (hv : v.toNat ≤ 2) :
    ∃ e, errorCodeOf v = some e ∧ (e = .noError ↔ v = 0#3) := by
  obtain ⟨rfl, he⟩ | ⟨rfl, he⟩ | ⟨rfl, he⟩ := errorCodeOf_legal v hv
  · exact ⟨_, he, by decide⟩
  · exact ⟨_, he, by decide⟩
  · exact ⟨_, he, by decide⟩

/-- The poll finds the nine bytes, and the read takes them off the channel (R174, R175). -/
theorem run_readResponse {s : State} {b : Vector Byte 9} {n0 n1 : Nat} {rest : List Input}
    (hp : s.engine.phase = .awaitingResponse) (hrx : s.chan.rx = b.toList)
    (hin : s.inputs = .engine n0 :: .engine n1 :: rest) :
    run 2 s = .next (goTo (.validating (.issue (parseWords b.toList s.engine.txn.sid)))
      { s with inputs := rest, chan := { s.chan with rx := [] } }) := by
  have hnine : b.toList.length = 9 := Vector.length_toList
  have htake : s.chan.rx.take 9 = b.toList := by rw [hrx, List.take_of_length_le hnine.le]
  have hdrop : s.chan.rx.drop 9 = [] := by rw [hrx, List.drop_of_length_le hnine.le]
  have hlen : 9 ≤ s.chan.rx.length := by rw [hrx, hnine]
  rw [← htake, ← hdrop]
  exact run_of_move 1 hin (.nineBytes hp hlen) (run_of_move 0 rfl (.readNine rfl hlen) rfl)

/-- Settles O47: the poll and the read, the ten commands, the verdict, and the drain of the channel
that the read emptied. -/
theorem responseIsParsedAndReturned : Obligations.ResponseIsParsedAndReturned := by
  intro s b ns rest hp hrx hlen hin
  obtain ⟨e, he, hzero⟩ :=
    errorCodeOf_legal_iff (parseResponse_legal s.params.nanSentinel b s.engine.txn.sid)
  match ns, hlen with
  | [n0, n1, m0, m1, m2, m3, m4, m5, m6, m7, m8, m9, n2, n3], _ =>
    refine ⟨_, run_trans 2 12 (run_readResponse hp hrx hin) (run_trans 10 2
      (run_parseWords (ns := [m0, m1, m2, m3, m4, m5, m6, m7, m8, m9]) rfl rfl rfl)
      (run_of_move 1 rfl (.verdict e rfl ?_) (run_of_move 0 rfl (.drainIdle rfl rfl) rfl))), ?_⟩
    · simpa using he
    · simp [he, hzero]

end Sys2Proof.Machine

/-! The block's reset and its sticky flags, and a byte that arrives (70_reset_and_hazards.md rules
R200 and R205). -/

namespace Sys2Proof.Machine

theorem arriveByte_of_tx {s : State} (hd : s.engine.dir = .tx) (b : Byte) : arriveByte b s = s := by
  simp only [arriveByte, hd]

theorem arriveByte_of_rx {s : State} (hd : s.engine.dir = .rx) (b : Byte) :
    arriveByte b s = { s with chan := { s.chan with rx := s.chan.rx ++ [b] } } := by
  simp only [arriveByte, hd]

/-- Settles O54: the step only delivers the byte, which each direction of the line treats in its own
way. -/
theorem arrivalInTransmitDirectionIsLost : Obligations.ArrivalInTransmitDirectionIsLost := by
  intro s b rest hin
  rw [step_of_inputs hin]
  constructor
  · exact fun hd =>
      congrArg Host.Outcome.next (arriveByte_of_tx (s := { s with inputs := rest }) hd b)
  · exact fun hd =>
      congrArg Host.Outcome.next (arriveByte_of_rx (s := { s with inputs := rest }) hd b)

/-- From `a` to `b`, none of the flags that R200 speaks of is cleared. -/
def FlagsKept (a b : BitVec 8) : Prop :=
  (ill a = true → ill b = true) ∧ (valid a = true → valid b = true) ∧
    (reqv a = true → reqv b = true)

theorem FlagsKept.refl (st : BitVec 8) : FlagsKept st st := ⟨id, id, id⟩

theorem FlagsKept.of_block_eq {s t : State} (h : t.block = s.block) :
    FlagsKept s.block.status t.block.status := h ▸ .refl _

theorem flagsKept_setReqv (st : BitVec 8) : FlagsKept st (setReqv st) := by simp [FlagsKept]

theorem flagsKept_setIll (st : BitVec 8) : FlagsKept st (setIll st) := by simp [FlagsKept]

theorem flagsKept_setVerdict (v : BitVec 3) (st : BitVec 8) : FlagsKept st (setVerdict v st) := by
  simp [FlagsKept]

theorem exec_keeps_flags {i : Instr} {s t : State} (h : exec i s = .next t) :
    FlagsKept s.block.status t.block.status := by
  obtain ⟨-, rfl⟩ | ⟨d, -, rfl⟩ | ⟨sid, reg, -, rfl⟩ | ⟨idx, d, hi, -, rfl⟩ |
    ⟨idx, d, hi, -, rfl⟩ | ⟨sid, -, rfl⟩ := exec_cases h
  · exact .refl _
  · exact .refl _
  · exact flagsKept_setReqv _
  · exact .refl _
  · exact flagsKept_setIll _
  · exact flagsKept_setVerdict _ _

theorem issueWord_keeps_flags {w : Word32} {s t : State} (h : issueWord w s = .next t) :
    FlagsKept s.block.status t.block.status := by
  obtain ⟨i, -, hi⟩ | ⟨why, -, rfl⟩ := issueWord_cases h
  · exact exec_keeps_flags hi
  · exact flagsKept_setIll _

theorem EngineMove.keeps_flags {now : Nat} {s t : State} (hm : EngineMove now s t) :
    FlagsKept s.block.status t.block.status := by
  cases hm with
  | build u _ hu => simpa using issueWord_keeps_flags hu
  | issue w ws u _ hu => simpa using issueWord_keeps_flags hu
  | _ => exact .of_block_eq (by simp)

theorem takeInput_keeps_flags {i : Input} {s t : State} (h : takeInput i s = .next t)
    (hi : i ≠ .reset) : FlagsKept s.block.status t.block.status := by
  cases i with
  | command w => exact issueWord_keeps_flags (takeInput_command_eq_next h).2
  | reset => exact absurd rfl hi
  | engine now => exact (engineStep_cases h).keeps_flags
  | call c => exact .of_block_eq (hostCall_keeps_block h)
  | arrive b => cases h; exact .of_block_eq (arriveByte_block b s)
  | sent => cases h; exact .of_block_eq (sendByte_block s)
  | readPort | lose => cases h; exact .refl _

/-- Settles O27: the reset event's one write, and every other input's writes of `STATUS`. -/
theorem onlyResetClearsTheFlags : Obligations.OnlyResetClearsTheFlags := by
  refine ⟨fun s rest => step_of_inputs, fun s t h hreset => ?_⟩
  obtain ⟨-, hst⟩ | ⟨i, rest, hin, hi⟩ := step_cases h
  · cases hst; exact FlagsKept.refl _
  · exact takeInput_keeps_flags (s := { s with inputs := rest }) hi fun hr =>
      hreset rest (hr ▸ hin)

end Sys2Proof.Machine
